-- ==== Sys2Proof/Word.lean ====
section
/-!
DEFINITION. The unit of the byte stream and the list of bits a wire element is made of (rules R9, R60).
-/

namespace Sys2Proof

/-- The unit of transfer from the byte source (R60, R67). -/
abbrev Byte := BitVec 8

/-- Bits in the order the stream gives them: within a byte, most significant first (R9). -/
abbrev Bits := List Bool

end Sys2Proof
end

