-- ==== Sys2Proof/Config.lean ====
section
/-!
DEFINITION. The parameters of rule R7: those a model may override, and the four constants of the wire format.
The one value the spec leaves open is free: `Config.countPastTop`.
-/

namespace Sys2Proof

/-- `BLOCK_SIZE_CHECK` (R7, R184): which StreamInfo bounds a frame's block size is held against. -/
inductive BlockSizeCheck where
  | off
  | max
  | minMax
deriving DecidableEq, Repr

/-- `RESYNC` (R7, D10): the spec defines the one value `NONE`; other values are open and not part of this hardware. -/
inductive Resync where
  | none
deriving DecidableEq, Repr

/-- The most channels a channel code gives (R177): the rows the sample RAM's addresses leave room for. -/
def topChannels : Nat := 8

/-- The largest block size the header can encode (R176): the entries of a row the sample RAM's addresses leave room for. -/
def topBlock : Nat := 65536

/-- The parameters of R7 a model may override: the sizes and orders, and the six configuration registers of R38.
The wire format encodes nothing past R7's sizes and orders (R176, R177, R202), so an override makes one smaller (log entry 7). -/
structure Config where
  /-- `MAX_CHANNELS`: the rows of `SUB` and `OUT` (R32, R33), at most `topChannels`. -/
  maxChannels : Fin 9
  /-- `MAX_BLOCK`: the entries of a row (R32, R33), at most `topBlock`. -/
  maxBlock : Fin 65537
  /-- `MAX_FIXED_ORDER`: the highest order of a FIXED subframe's type (R202, R207). -/
  maxFixedOrder : Fin 5
  /-- `MAX_LPC_ORDER`: the highest order of an LPC subframe's type (R202, R213). -/
  maxLpcOrder : Fin 33
  /-- `MAX_READ_WIDTH` in bits (R7, R135). -/
  maxReadWidth : Nat
  /-- `BLOCK_SIZE_CHECK` (R184). -/
  blockSizeCheck : BlockSizeCheck
  /-- `PADDING_CHECK` (R256). -/
  paddingCheck : Bool
  /-- `RANGE_CHECK` (R216, R255). -/
  rangeCheck : Bool
  /-- `EXPECT_MARKER` (R140). -/
  expectMarker : Bool
  /-- `RESYNC` (R277). -/
  resync : Resync
deriving DecidableEq, Repr

/-- The values this hardware takes (table of R7). -/
def Config.default : Config where
  maxChannels := 8
  maxBlock := 65536
  maxFixedOrder := 4
  maxLpcOrder := 32
  maxReadWidth := 33
  blockSizeCheck := .max
  paddingCheck := true
  rangeCheck := true
  expectMarker := true
  resync := .none

/-- `MD_COUNT` after a block that the 32-bit register has no value for, one less than it: the spec states no value, only
that the block is no first one (R37, R147; log entry 4). The argument is the number of records emitted so far. -/
opaque Config.countPastTop : Nat → Fin 4294967295

/-- `SYNC_CODE`, 14 bits: with the three below a constant of the wire format, which R7 says a model must not change. -/
def syncCode : Nat := 0x3FFE

/-- `STREAM_MARKER`, ASCII "fLaC" (R7). -/
def streamMarker : Nat := 0x664C6143

/-- `CRC8_POLY` (R7). -/
def crc8Poly : BitVec 8 := 0x07

/-- `CRC16_POLY` (R7). -/
def crc16Poly : BitVec 16 := 0x8005

end Sys2Proof
end

