-- ==== Sys2Proof/Syntax.lean ====
section
/-!
DEFINITION. The instruction set: one constructor per row of the opcode table (rules R3, R102, R80 to R101).
The table writes each `FH_*` row as a pattern over the whole 32-bit header word.
An instruction here is the row's own field or fields; the header word is their concatenation in wire order.
-/

namespace Sys2Proof

/-- Where in the grammar the next element stands. `host`: no command runs and a 2-bit command code comes next.
The others are the places inside OPEN (R140) and PULL (R275) at which one element of the table is read. -/
inductive Position where
  | host
  | marker
  | metadata
  | sync
  | bsCode
  | srCode
  | chCode
  | bpsCode
  | number
  | numCont
  | bs8
  | bs16
  | sr8
  | sr16
  | sr16x10
  | crc8
  | subframe
  | residual
  | part4
  | part5
  | esc
  | pad
  | footer
deriving DecidableEq, Repr

/-- The instructions. -/
inductive Instr where
  /-- `CMD_RESET` (R273): host command RESET. -/
  | cmdReset
  /-- `CMD_OPEN` (R274): host command OPEN. -/
  | cmdOpen
  /-- `CMD_PULL` (R275): host command PULL. -/
  | cmdPull
  /-- `CMD_RESERVED3` (R278): reserved host command code 3. -/
  | cmdReserved3
  /-- `MARKER` (R141): stream marker: the 32-bit field read at the stream start. -/
  | marker (m : BitVec 32)
  /-- `MD_STREAMINFO` (R145): metadata block type 0 with its last flag and length. -/
  | mdStreaminfo (last : Bool) (len : BitVec 24)
  /-- `MD_PADDING` (R148): metadata block passed through raw. -/
  | mdPadding (last : Bool) (len : BitVec 24)
  /-- `MD_APPLICATION` (R149): metadata block passed through raw. -/
  | mdApplication (last : Bool) (len : BitVec 24)
  /-- `MD_SEEKTABLE` (R150): metadata block passed through raw. -/
  | mdSeektable (last : Bool) (len : BitVec 24)
  /-- `MD_VORBIS_COMMENT` (R151): metadata block passed through raw. -/
  | mdVorbisComment (last : Bool) (len : BitVec 24)
  /-- `MD_CUESHEET` (R152): metadata block passed through raw. -/
  | mdCuesheet (last : Bool) (len : BitVec 24)
  /-- `MD_PICTURE` (R153): metadata block passed through raw. -/
  | mdPicture (last : Bool) (len : BitVec 24)
  /-- `MD_UNKNOWN_types_7-7` (R154): metadata block of an unknown type. -/
  | mdUnknownTypes7To7 (last : Bool) (len : BitVec 24)
  /-- `MD_UNKNOWN_types_8-15` (R154): metadata block of an unknown type (the low bits of the type code in t). -/
  | mdUnknownTypes8To15 (last : Bool) (t : BitVec 3) (len : BitVec 24)
  /-- `MD_UNKNOWN_types_16-31` (R154): metadata block of an unknown type (the low bits of the type code in t). -/
  | mdUnknownTypes16To31 (last : Bool) (t : BitVec 4) (len : BitVec 24)
  /-- `MD_UNKNOWN_types_32-63` (R154): metadata block of an unknown type (the low bits of the type code in t). -/
  | mdUnknownTypes32To63 (last : Bool) (t : BitVec 5) (len : BitVec 24)
  /-- `MD_UNKNOWN_types_64-127` (R154): metadata block of an unknown type (the low bits of the type code in t). -/
  | mdUnknownTypes64To127 (last : Bool) (t : BitVec 6) (len : BitVec 24)
  /-- `FH_blocking_0` (R170): sync code, reserved bit 0, blocking bit 0 (frame number); the other fields of the row are the elements that follow. -/
  | fhBlocking0
  /-- `FH_blocking_1` (R170): sync code, reserved bit 0, blocking bit 1 (sample number); the other fields of the row are the elements that follow. -/
  | fhBlocking1
  /-- `FH_bad_sync` (R171): any 14 bits other than the sync code. -/
  | fhBadSync (sync : BitVec 14)
  /-- `FH_reserved_a_1` (R172): sync code followed by a reserved bit 1. -/
  | fhReservedA1
  /-- `FH_reserved_b_1` (R179): a bits-per-sample code followed by a reserved bit 1. -/
  | fhReservedB1 (bps : BitVec 3)
  /-- `FH_bs_0` (R174): block-size code: reserved. -/
  | fhBs0
  /-- `FH_bs_1` (R176): block-size code: 192. -/
  | fhBs1
  /-- `FH_bs_2` (R176): block-size code: 576. -/
  | fhBs2
  /-- `FH_bs_3` (R176): block-size code: 1152. -/
  | fhBs3
  /-- `FH_bs_4` (R176): block-size code: 2304. -/
  | fhBs4
  /-- `FH_bs_5` (R176): block-size code: 4608. -/
  | fhBs5
  /-- `FH_bs_6` (R176): block-size code: BS8 follows, N = t + 1. -/
  | fhBs6
  /-- `FH_bs_7` (R176): block-size code: BS16 follows, N = t + 1. -/
  | fhBs7
  /-- `FH_bs_8` (R176): block-size code: 256. -/
  | fhBs8
  /-- `FH_bs_9` (R176): block-size code: 512. -/
  | fhBs9
  /-- `FH_bs_10` (R176): block-size code: 1024. -/
  | fhBs10
  /-- `FH_bs_11` (R176): block-size code: 2048. -/
  | fhBs11
  /-- `FH_bs_12` (R176): block-size code: 4096. -/
  | fhBs12
  /-- `FH_bs_13` (R176): block-size code: 8192. -/
  | fhBs13
  /-- `FH_bs_14` (R176): block-size code: 16384. -/
  | fhBs14
  /-- `FH_bs_15` (R176): block-size code: 32768. -/
  | fhBs15
  /-- `FH_sr_0` (R182): sample-rate code: StreamInfo rate. -/
  | fhSr0
  /-- `FH_sr_1` (R182): sample-rate code: 88200. -/
  | fhSr1
  /-- `FH_sr_2` (R182): sample-rate code: 176400. -/
  | fhSr2
  /-- `FH_sr_3` (R182): sample-rate code: 192000. -/
  | fhSr3
  /-- `FH_sr_4` (R182): sample-rate code: 8000. -/
  | fhSr4
  /-- `FH_sr_5` (R182): sample-rate code: 16000. -/
  | fhSr5
  /-- `FH_sr_6` (R182): sample-rate code: 22050. -/
  | fhSr6
  /-- `FH_sr_7` (R182): sample-rate code: 24000. -/
  | fhSr7
  /-- `FH_sr_8` (R182): sample-rate code: 32000. -/
  | fhSr8
  /-- `FH_sr_9` (R182): sample-rate code: 44100. -/
  | fhSr9
  /-- `FH_sr_10` (R182): sample-rate code: 48000. -/
  | fhSr10
  /-- `FH_sr_11` (R182): sample-rate code: 96000. -/
  | fhSr11
  /-- `FH_sr_12` (R182): sample-rate code: SR8 follows, t x 1000 Hz. -/
  | fhSr12
  /-- `FH_sr_13` (R182): sample-rate code: SR16 follows, t Hz. -/
  | fhSr13
  /-- `FH_sr_14` (R182): sample-rate code: SR16X10 follows, t x 10 Hz. -/
  | fhSr14
  /-- `FH_sr_15` (R175): sample-rate code: invalid. -/
  | fhSr15
  /-- `FH_ch_0` (R251): channel-assignment code: Independent, 1 channel(s). -/
  | fhCh0
  /-- `FH_ch_1` (R251): channel-assignment code: Independent, 2 channel(s). -/
  | fhCh1
  /-- `FH_ch_2` (R251): channel-assignment code: Independent, 3 channel(s). -/
  | fhCh2
  /-- `FH_ch_3` (R251): channel-assignment code: Independent, 4 channel(s). -/
  | fhCh3
  /-- `FH_ch_4` (R251): channel-assignment code: Independent, 5 channel(s). -/
  | fhCh4
  /-- `FH_ch_5` (R251): channel-assignment code: Independent, 6 channel(s). -/
  | fhCh5
  /-- `FH_ch_6` (R251): channel-assignment code: Independent, 7 channel(s). -/
  | fhCh6
  /-- `FH_ch_7` (R251): channel-assignment code: Independent, 8 channel(s). -/
  | fhCh7
  /-- `FH_ch_8` (R252): channel-assignment code: LeftSide, 2 channels. -/
  | fhCh8
  /-- `FH_ch_9` (R253): channel-assignment code: RightSide, 2 channels. -/
  | fhCh9
  /-- `FH_ch_10` (R254): channel-assignment code: MiddleSide, 2 channels. -/
  | fhCh10
  /-- `FH_ch_11` (R177): channel-assignment code: invalid. -/
  | fhCh11
  /-- `FH_ch_12` (R177): channel-assignment code: invalid. -/
  | fhCh12
  /-- `FH_ch_13` (R177): channel-assignment code: invalid. -/
  | fhCh13
  /-- `FH_ch_14` (R177): channel-assignment code: invalid. -/
  | fhCh14
  /-- `FH_ch_15` (R177): channel-assignment code: invalid. -/
  | fhCh15
  /-- `FH_bps_0` (R178): bits-per-sample code (StreamInfo depth) and the reserved bit 0 after it. -/
  | fhBps0
  /-- `FH_bps_1` (R178): bits-per-sample code (8) and the reserved bit 0 after it. -/
  | fhBps1
  /-- `FH_bps_2` (R178): bits-per-sample code (12) and the reserved bit 0 after it. -/
  | fhBps2
  /-- `FH_bps_3` (R178): bits-per-sample code (reserved) and the reserved bit 0 after it. -/
  | fhBps3
  /-- `FH_bps_4` (R178): bits-per-sample code (16) and the reserved bit 0 after it. -/
  | fhBps4
  /-- `FH_bps_5` (R178): bits-per-sample code (20) and the reserved bit 0 after it. -/
  | fhBps5
  /-- `FH_bps_6` (R178): bits-per-sample code (24) and the reserved bit 0 after it. -/
  | fhBps6
  /-- `FH_bps_7` (R178): bits-per-sample code (32) and the reserved bit 0 after it. -/
  | fhBps7
  /-- `NUM_lead_0x00_0x80` (R180): first byte of the number, its free bits in x. -/
  | numLead00 (x : BitVec 7)
  /-- `NUM_lead_0x80_0xC0` (R180): first byte of the number, its free bits in x. -/
  | numLead80 (x : BitVec 6)
  /-- `NUM_lead_0xC0_0xE0` (R180): first byte of the number, its free bits in x. -/
  | numLeadC0 (x : BitVec 5)
  /-- `NUM_lead_0xE0_0xF0` (R180): first byte of the number, its free bits in x. -/
  | numLeadE0 (x : BitVec 4)
  /-- `NUM_lead_0xF0_0xF8` (R180): first byte of the number, its free bits in x. -/
  | numLeadF0 (x : BitVec 3)
  /-- `NUM_lead_0xF8_0xFC` (R180): first byte of the number, its free bits in x. -/
  | numLeadF8 (x : BitVec 2)
  /-- `NUM_lead_0xFC_0xFE` (R180): first byte of the number, its free bits in x. -/
  | numLeadFC (x : BitVec 1)
  /-- `NUM_lead_0xFE_0xFF` (R180): first byte of the number. -/
  | numLeadFE
  /-- `NUM_lead_0xFF_0xFF` (R180): first byte of the number. -/
  | numLeadFF
  /-- `NUM_continuation` (R180): a following byte of the number, all 8 bits. -/
  | numContinuation (c : BitVec 8)
  /-- `BS8` (R181): trailing 8-bit block-size field. -/
  | bs8 (t : BitVec 8)
  /-- `BS16` (R181): trailing 16-bit block-size field. -/
  | bs16 (t : BitVec 16)
  /-- `SR8` (R181): trailing 8-bit rate field (kHz). -/
  | sr8 (t : BitVec 8)
  /-- `SR16` (R181): trailing 16-bit rate field (Hz). -/
  | sr16 (t : BitVec 16)
  /-- `SR16X10` (R181): trailing 16-bit rate field (tens of Hz). -/
  | sr16x10 (t : BitVec 16)
  /-- `CRC8` (R183): header checksum byte. -/
  | crc8 (crc : BitVec 8)
  /-- `SF_reserved_1` (R201): subframe header whose reserved bit is 1. -/
  | sfReserved1
  /-- `SF_CONSTANT` (R205): subframe header of this type with its wasted-bits flag. -/
  | sfConstant (wasted : Bool)
  /-- `SF_VERBATIM` (R206): subframe header of this type with its wasted-bits flag. -/
  | sfVerbatim (wasted : Bool)
  /-- `SF_RESERVED_types_2-3` (R202): subframe header of a reserved type (the low bits of the type code in x). -/
  | sfReservedTypes2To3 (x : BitVec 1)
  /-- `SF_RESERVED_types_4-7` (R202): subframe header of a reserved type (the low bits of the type code in x). -/
  | sfReservedTypes4To7 (x : BitVec 2)
  /-- `SF_FIXED0` (R208): subframe header of this type with its wasted-bits flag. -/
  | sfFixed0 (wasted : Bool)
  /-- `SF_FIXED1` (R209): subframe header of this type with its wasted-bits flag. -/
  | sfFixed1 (wasted : Bool)
  /-- `SF_FIXED2` (R210): subframe header of this type with its wasted-bits flag. -/
  | sfFixed2 (wasted : Bool)
  /-- `SF_FIXED3` (R211): subframe header of this type with its wasted-bits flag. -/
  | sfFixed3 (wasted : Bool)
  /-- `SF_FIXED4` (R212): subframe header of this type with its wasted-bits flag. -/
  | sfFixed4 (wasted : Bool)
  /-- `SF_RESERVED_type_13` (R202): subframe header of a reserved type. -/
  | sfReservedType13
  /-- `SF_RESERVED_types_14-15` (R202): subframe header of a reserved type (the low bits of the type code in x). -/
  | sfReservedTypes14To15 (x : BitVec 1)
  /-- `SF_RESERVED_types_16-31` (R202): subframe header of a reserved type (the low bits of the type code in x). -/
  | sfReservedTypes16To31 (x : BitVec 4)
  /-- `SF_LPC1` (R215): subframe header of this type with its wasted-bits flag. -/
  | sfLpc1 (wasted : Bool)
  /-- `SF_LPC2` (R215): subframe header of this type with its wasted-bits flag. -/
  | sfLpc2 (wasted : Bool)
  /-- `SF_LPC3` (R215): subframe header of this type with its wasted-bits flag. -/
  | sfLpc3 (wasted : Bool)
  /-- `SF_LPC4` (R215): subframe header of this type with its wasted-bits flag. -/
  | sfLpc4 (wasted : Bool)
  /-- `SF_LPC5` (R215): subframe header of this type with its wasted-bits flag. -/
  | sfLpc5 (wasted : Bool)
  /-- `SF_LPC6` (R215): subframe header of this type with its wasted-bits flag. -/
  | sfLpc6 (wasted : Bool)
  /-- `SF_LPC7` (R215): subframe header of this type with its wasted-bits flag. -/
  | sfLpc7 (wasted : Bool)
  /-- `SF_LPC8` (R215): subframe header of this type with its wasted-bits flag. -/
  | sfLpc8 (wasted : Bool)
  /-- `SF_LPC9` (R215): subframe header of this type with its wasted-bits flag. -/
  | sfLpc9 (wasted : Bool)
  /-- `SF_LPC10` (R215): subframe header of this type with its wasted-bits flag. -/
  | sfLpc10 (wasted : Bool)
  /-- `SF_LPC11` (R215): subframe header of this type with its wasted-bits flag. -/
  | sfLpc11 (wasted : Bool)
  /-- `SF_LPC12` (R215): subframe header of this type with its wasted-bits flag. -/
  | sfLpc12 (wasted : Bool)
  /-- `SF_LPC13` (R215): subframe header of this type with its wasted-bits flag. -/
  | sfLpc13 (wasted : Bool)
  /-- `SF_LPC14` (R215): subframe header of this type with its wasted-bits flag. -/
  | sfLpc14 (wasted : Bool)
  /-- `SF_LPC15` (R215): subframe header of this type with its wasted-bits flag. -/
  | sfLpc15 (wasted : Bool)
  /-- `SF_LPC16` (R215): subframe header of this type with its wasted-bits flag. -/
  | sfLpc16 (wasted : Bool)
  /-- `SF_LPC17` (R215): subframe header of this type with its wasted-bits flag. -/
  | sfLpc17 (wasted : Bool)
  /-- `SF_LPC18` (R215): subframe header of this type with its wasted-bits flag. -/
  | sfLpc18 (wasted : Bool)
  /-- `SF_LPC19` (R215): subframe header of this type with its wasted-bits flag. -/
  | sfLpc19 (wasted : Bool)
  /-- `SF_LPC20` (R215): subframe header of this type with its wasted-bits flag. -/
  | sfLpc20 (wasted : Bool)
  /-- `SF_LPC21` (R215): subframe header of this type with its wasted-bits flag. -/
  | sfLpc21 (wasted : Bool)
  /-- `SF_LPC22` (R215): subframe header of this type with its wasted-bits flag. -/
  | sfLpc22 (wasted : Bool)
  /-- `SF_LPC23` (R215): subframe header of this type with its wasted-bits flag. -/
  | sfLpc23 (wasted : Bool)
  /-- `SF_LPC24` (R215): subframe header of this type with its wasted-bits flag. -/
  | sfLpc24 (wasted : Bool)
  /-- `SF_LPC25` (R215): subframe header of this type with its wasted-bits flag. -/
  | sfLpc25 (wasted : Bool)
  /-- `SF_LPC26` (R215): subframe header of this type with its wasted-bits flag. -/
  | sfLpc26 (wasted : Bool)
  /-- `SF_LPC27` (R215): subframe header of this type with its wasted-bits flag. -/
  | sfLpc27 (wasted : Bool)
  /-- `SF_LPC28` (R215): subframe header of this type with its wasted-bits flag. -/
  | sfLpc28 (wasted : Bool)
  /-- `SF_LPC29` (R215): subframe header of this type with its wasted-bits flag. -/
  | sfLpc29 (wasted : Bool)
  /-- `SF_LPC30` (R215): subframe header of this type with its wasted-bits flag. -/
  | sfLpc30 (wasted : Bool)
  /-- `SF_LPC31` (R215): subframe header of this type with its wasted-bits flag. -/
  | sfLpc31 (wasted : Bool)
  /-- `SF_LPC32` (R215): subframe header of this type with its wasted-bits flag. -/
  | sfLpc32 (wasted : Bool)
  /-- `RES_method_0` (R231): coding method 0 and the 4-bit partition order. -/
  | resMethod0 (porder : BitVec 4)
  /-- `RES_method_1` (R231): coding method 1 and the 4-bit partition order. -/
  | resMethod1 (porder : BitVec 4)
  /-- `RES_method_2-3` (R231): coding method 2 + x. -/
  | resMethod2To3 (x : BitVec 1)
  /-- `PART4_k` (R236): 4-bit Rice parameter other than 15. -/
  | part4K (k : BitVec 4)
  /-- `PART4_escape` (R235): 4-bit escape value. -/
  | part4Escape
  /-- `PART5_k` (R236): 5-bit Rice parameter other than 31. -/
  | part5K (k : BitVec 5)
  /-- `PART5_escape` (R235): 5-bit escape value. -/
  | part5Escape
  /-- `ESC` (R235): 5-bit raw width of an escaped partition. -/
  | esc (width : BitVec 5)
  /-- `PAD` (R256): the bits up to the next byte boundary. -/
  | pad (bits : Bits)
  /-- `CRC16` (R257): frame footer. -/
  | crc16 (crc : BitVec 16)
deriving DecidableEq, Repr

end Sys2Proof
end

