-- ==== Sys2Proof/WellFormed.lean ====
section
/-!
DEFINITION. Which terms of `Instr` stand for words of their row: the operand values a row's pattern leaves out.
-/

namespace Sys2Proof

/-- A term is well formed when its operands match its row of the table: a bad sync is not the sync code (R171),
a Rice parameter is not the escape value (R234), padding is at most seven bits (R84). -/
def Instr.wellFormed : Instr → Bool
  | .fhBadSync sync => sync.toNat != syncCode
  | .part4K k => k != 15
  | .part5K k => k != 31
  | .pad bits => decide (bits.length < 8)
  | .cmdReset | .cmdOpen | .cmdPull | .cmdReserved3 | .marker _ | .mdStreaminfo _ _ | .mdPadding _ _ | .mdApplication _ _ | .mdSeektable _ _
    | .mdVorbisComment _ _ | .mdCuesheet _ _ | .mdPicture _ _ | .mdUnknownTypes7To7 _ _ | .mdUnknownTypes8To15 _ _ _ | .mdUnknownTypes16To31 _ _ _
    | .mdUnknownTypes32To63 _ _ _ | .mdUnknownTypes64To127 _ _ _ | .fhBlocking0 | .fhBlocking1 | .fhReservedA1 | .fhReservedB1 _ | .fhBs0 | .fhBs1
    | .fhBs2 | .fhBs3 | .fhBs4 | .fhBs5 | .fhBs6 | .fhBs7 | .fhBs8 | .fhBs9 | .fhBs10 | .fhBs11 | .fhBs12 | .fhBs13 | .fhBs14 | .fhBs15 | .fhSr0
    | .fhSr1 | .fhSr2 | .fhSr3 | .fhSr4 | .fhSr5 | .fhSr6 | .fhSr7 | .fhSr8 | .fhSr9 | .fhSr10 | .fhSr11 | .fhSr12 | .fhSr13 | .fhSr14 | .fhSr15
    | .fhCh0 | .fhCh1 | .fhCh2 | .fhCh3 | .fhCh4 | .fhCh5 | .fhCh6 | .fhCh7 | .fhCh8 | .fhCh9 | .fhCh10 | .fhCh11 | .fhCh12 | .fhCh13 | .fhCh14
    | .fhCh15 | .fhBps0 | .fhBps1 | .fhBps2 | .fhBps3 | .fhBps4 | .fhBps5 | .fhBps6 | .fhBps7 | .numLead00 _ | .numLead80 _ | .numLeadC0 _
    | .numLeadE0 _ | .numLeadF0 _ | .numLeadF8 _ | .numLeadFC _ | .numLeadFE | .numLeadFF | .numContinuation _ | .bs8 _ | .bs16 _ | .sr8 _ | .sr16 _
    | .sr16x10 _ | .crc8 _ | .sfReserved1 | .sfConstant _ | .sfVerbatim _ | .sfReservedTypes2To3 _ | .sfReservedTypes4To7 _ | .sfFixed0 _
    | .sfFixed1 _ | .sfFixed2 _ | .sfFixed3 _ | .sfFixed4 _ | .sfReservedType13 | .sfReservedTypes14To15 _ | .sfReservedTypes16To31 _ | .sfLpc1 _
    | .sfLpc2 _ | .sfLpc3 _ | .sfLpc4 _ | .sfLpc5 _ | .sfLpc6 _ | .sfLpc7 _ | .sfLpc8 _ | .sfLpc9 _ | .sfLpc10 _ | .sfLpc11 _ | .sfLpc12 _
    | .sfLpc13 _ | .sfLpc14 _ | .sfLpc15 _ | .sfLpc16 _ | .sfLpc17 _ | .sfLpc18 _ | .sfLpc19 _ | .sfLpc20 _ | .sfLpc21 _ | .sfLpc22 _ | .sfLpc23 _
    | .sfLpc24 _ | .sfLpc25 _ | .sfLpc26 _ | .sfLpc27 _ | .sfLpc28 _ | .sfLpc29 _ | .sfLpc30 _ | .sfLpc31 _ | .sfLpc32 _ | .resMethod0 _
    | .resMethod1 _ | .resMethod2To3 _ | .part4Escape | .part5Escape | .esc _ | .crc16 _ => true

end Sys2Proof
end

