-- ==== Sys2Proof/Decode.lean ====
section
/-!
DEFINITION. From bits to instructions and back (rules R80 to R102).
`decode` reads the element that stands at a position of the grammar, and `encode` writes an element's bits.
Every bit pattern decodes at every position: a reserved code is an instruction whose effect is to raise an error (R104).
-/

namespace Sys2Proof

/-- Why bits give no instruction. -/
inductive DecodeError where
  /-- fewer bits than the element has -/
  | truncated
deriving DecidableEq, Repr

/-- The unsigned value of bits, the first bit the most significant (R9). -/
def bitsToNat (acc : Nat) : Bits → Nat
  | [] => acc
  | b :: bs => bitsToNat (2 * acc + b.toNat) bs

/-- The n-bit pattern of v, most significant bit first (R107, `U<n>`). -/
def natToBits : Nat → Nat → Bits
  | 0, _ => []
  | n + 1, v => v.testBit n :: natToBits n v

/-- The eight bits of a byte in stream order (R9). -/
def byteToBits (b : Byte) : Bits := natToBits 8 b.toNat

/-- Takes an n-bit unsigned field off the front of the bits (R103). -/
def field (n : Nat) (bs : Bits) : Except DecodeError (Nat × Bits) :=
  if n ≤ bs.length then .ok (bitsToNat 0 (bs.take n), bs.drop n) else .error .truncated

/-- Host command codes (R102). -/
def commandOf : Nat → Instr
  | 0 => .cmdReset
  | 1 => .cmdOpen
  | 2 => .cmdPull
  | _ => .cmdReserved3

/-- Metadata block type codes (R82). -/
def metadataOf (last : Bool) (type : Nat) (len : BitVec 24) : Instr :=
  match type with
  | 0 => .mdStreaminfo last len
  | 1 => .mdPadding last len
  | 2 => .mdApplication last len
  | 3 => .mdSeektable last len
  | 4 => .mdVorbisComment last len
  | 5 => .mdCuesheet last len
  | 6 => .mdPicture last len
  | 7 => .mdUnknownTypes7To7 last len
  | t =>
    if t < 16 then .mdUnknownTypes8To15 last (BitVec.ofNat 3 t) len
    else if t < 32 then .mdUnknownTypes16To31 last (BitVec.ofNat 4 t) len
    else if t < 64 then .mdUnknownTypes32To63 last (BitVec.ofNat 5 t) len
    else .mdUnknownTypes64To127 last (BitVec.ofNat 6 t) len

/-- Block-size codes (R86). -/
def bsCodeOf : Nat → Instr
  | 0 => .fhBs0
  | 1 => .fhBs1
  | 2 => .fhBs2
  | 3 => .fhBs3
  | 4 => .fhBs4
  | 5 => .fhBs5
  | 6 => .fhBs6
  | 7 => .fhBs7
  | 8 => .fhBs8
  | 9 => .fhBs9
  | 10 => .fhBs10
  | 11 => .fhBs11
  | 12 => .fhBs12
  | 13 => .fhBs13
  | 14 => .fhBs14
  | _ => .fhBs15

/-- Sample-rate codes (R87). -/
def srCodeOf : Nat → Instr
  | 0 => .fhSr0
  | 1 => .fhSr1
  | 2 => .fhSr2
  | 3 => .fhSr3
  | 4 => .fhSr4
  | 5 => .fhSr5
  | 6 => .fhSr6
  | 7 => .fhSr7
  | 8 => .fhSr8
  | 9 => .fhSr9
  | 10 => .fhSr10
  | 11 => .fhSr11
  | 12 => .fhSr12
  | 13 => .fhSr13
  | 14 => .fhSr14
  | _ => .fhSr15

/-- Channel-assignment codes (R88). -/
def chCodeOf : Nat → Instr
  | 0 => .fhCh0
  | 1 => .fhCh1
  | 2 => .fhCh2
  | 3 => .fhCh3
  | 4 => .fhCh4
  | 5 => .fhCh5
  | 6 => .fhCh6
  | 7 => .fhCh7
  | 8 => .fhCh8
  | 9 => .fhCh9
  | 10 => .fhCh10
  | 11 => .fhCh11
  | 12 => .fhCh12
  | 13 => .fhCh13
  | 14 => .fhCh14
  | _ => .fhCh15

/-- Bits-per-sample codes (R89). -/
def bpsCodeOf : Nat → Instr
  | 0 => .fhBps0
  | 1 => .fhBps1
  | 2 => .fhBps2
  | 3 => .fhBps3
  | 4 => .fhBps4
  | 5 => .fhBps5
  | 6 => .fhBps6
  | _ => .fhBps7

/-- First bytes of the frame or sample number (R90). -/
def numberLeadOf (b : Nat) : Instr :=
  if b < 0x80 then .numLead00 (BitVec.ofNat 7 b)
  else if b < 0xC0 then .numLead80 (BitVec.ofNat 6 b)
  else if b < 0xE0 then .numLeadC0 (BitVec.ofNat 5 b)
  else if b < 0xF0 then .numLeadE0 (BitVec.ofNat 4 b)
  else if b < 0xF8 then .numLeadF0 (BitVec.ofNat 3 b)
  else if b < 0xFC then .numLeadF8 (BitVec.ofNat 2 b)
  else if b < 0xFE then .numLeadFC (BitVec.ofNat 1 b)
  else if b = 0xFE then .numLeadFE
  else .numLeadFF

/-- Reserved subframe types (R92). -/
def reservedSubframeOf (type : Nat) : Option Instr :=
  if type < 2 then none
  else if type < 4 then some (.sfReservedTypes2To3 (BitVec.ofNat 1 type))
  else if type < 8 then some (.sfReservedTypes4To7 (BitVec.ofNat 2 type))
  else if type < 13 then none
  else if type = 13 then some .sfReservedType13
  else if type < 16 then some (.sfReservedTypes14To15 (BitVec.ofNat 1 type))
  else if type < 32 then some (.sfReservedTypes16To31 (BitVec.ofNat 4 type))
  else none

/-- Subframe types that select a decoder (R92); asked only of a type that is not reserved. -/
def subframeOf (type : Nat) (wasted : Bool) : Instr :=
  match type with
  | 0 => .sfConstant wasted
  | 1 => .sfVerbatim wasted
  | 8 => .sfFixed0 wasted
  | 9 => .sfFixed1 wasted
  | 10 => .sfFixed2 wasted
  | 11 => .sfFixed3 wasted
  | 12 => .sfFixed4 wasted
  | 32 => .sfLpc1 wasted
  | 33 => .sfLpc2 wasted
  | 34 => .sfLpc3 wasted
  | 35 => .sfLpc4 wasted
  | 36 => .sfLpc5 wasted
  | 37 => .sfLpc6 wasted
  | 38 => .sfLpc7 wasted
  | 39 => .sfLpc8 wasted
  | 40 => .sfLpc9 wasted
  | 41 => .sfLpc10 wasted
  | 42 => .sfLpc11 wasted
  | 43 => .sfLpc12 wasted
  | 44 => .sfLpc13 wasted
  | 45 => .sfLpc14 wasted
  | 46 => .sfLpc15 wasted
  | 47 => .sfLpc16 wasted
  | 48 => .sfLpc17 wasted
  | 49 => .sfLpc18 wasted
  | 50 => .sfLpc19 wasted
  | 51 => .sfLpc20 wasted
  | 52 => .sfLpc21 wasted
  | 53 => .sfLpc22 wasted
  | 54 => .sfLpc23 wasted
  | 55 => .sfLpc24 wasted
  | 56 => .sfLpc25 wasted
  | 57 => .sfLpc26 wasted
  | 58 => .sfLpc27 wasted
  | 59 => .sfLpc28 wasted
  | 60 => .sfLpc29 wasted
  | 61 => .sfLpc30 wasted
  | 62 => .sfLpc31 wasted
  | _ => .sfLpc32 wasted

/-- The element at a position, and the bits after it.
`align` is the number of bits up to the next byte boundary, which only the padding needs (R127). -/
def decode (pos : Position) (align : Nat) (bs : Bits) : Except DecodeError (Instr × Bits) :=
  match pos with
  | .host => do
    let (c, r) ← field 2 bs
    .ok (commandOf c, r)
  | .marker => do
    let (m, r) ← field 32 bs
    .ok (.marker (BitVec.ofNat 32 m), r)
  | .metadata => do
    let (last, r) ← field 1 bs
    let (type, r) ← field 7 r
    let (len, r) ← field 24 r
    .ok (metadataOf (last == 1) type (BitVec.ofNat 24 len), r)
  | .sync => do
    let (sync, r) ← field 14 bs
    if sync ≠ syncCode then .ok (.fhBadSync (BitVec.ofNat 14 sync), r)
    else do
      let (reserved, r) ← field 1 r
      if reserved = 1 then .ok (.fhReservedA1, r)
      else do
        let (blocking, r) ← field 1 r
        .ok (if blocking = 1 then .fhBlocking1 else .fhBlocking0, r)
  | .bsCode => do
    let (k, r) ← field 4 bs
    .ok (bsCodeOf k, r)
  | .srCode => do
    let (k, r) ← field 4 bs
    .ok (srCodeOf k, r)
  | .chCode => do
    let (k, r) ← field 4 bs
    .ok (chCodeOf k, r)
  | .bpsCode => do
    let (k, r) ← field 3 bs
    let (reserved, r) ← field 1 r
    .ok (if reserved = 1 then .fhReservedB1 (BitVec.ofNat 3 k) else bpsCodeOf k, r)
  | .number => do
    let (b, r) ← field 8 bs
    .ok (numberLeadOf b, r)
  | .numCont => do
    let (c, r) ← field 8 bs
    .ok (.numContinuation (BitVec.ofNat 8 c), r)
  | .bs8 => do
    let (t, r) ← field 8 bs
    .ok (.bs8 (BitVec.ofNat 8 t), r)
  | .bs16 => do
    let (t, r) ← field 16 bs
    .ok (.bs16 (BitVec.ofNat 16 t), r)
  | .sr8 => do
    let (t, r) ← field 8 bs
    .ok (.sr8 (BitVec.ofNat 8 t), r)
  | .sr16 => do
    let (t, r) ← field 16 bs
    .ok (.sr16 (BitVec.ofNat 16 t), r)
  | .sr16x10 => do
    let (t, r) ← field 16 bs
    .ok (.sr16x10 (BitVec.ofNat 16 t), r)
  | .crc8 => do
    let (c, r) ← field 8 bs
    .ok (.crc8 (BitVec.ofNat 8 c), r)
  | .subframe => do
    let (reserved, r) ← field 1 bs
    if reserved = 1 then .ok (.sfReserved1, r)
    else do
      let (type, r) ← field 6 r
      match reservedSubframeOf type with
      | some i => .ok (i, r)
      | none => do
        let (wasted, r) ← field 1 r
        .ok (subframeOf type (wasted == 1), r)
  | .residual => do
    let (method, r) ← field 2 bs
    if method ≥ 2 then .ok (.resMethod2To3 (BitVec.ofNat 1 method), r)
    else do
      let (o, r) ← field 4 r
      .ok (if method = 0 then .resMethod0 (BitVec.ofNat 4 o) else .resMethod1 (BitVec.ofNat 4 o), r)
  | .part4 => do
    let (k, r) ← field 4 bs
    .ok (if k = 15 then .part4Escape else .part4K (BitVec.ofNat 4 k), r)
  | .part5 => do
    let (k, r) ← field 5 bs
    .ok (if k = 31 then .part5Escape else .part5K (BitVec.ofNat 5 k), r)
  | .esc => do
    let (w, r) ← field 5 bs
    .ok (.esc (BitVec.ofNat 5 w), r)
  | .pad => if align ≤ bs.length then .ok (.pad (bs.take align), bs.drop align) else .error .truncated
  | .footer => do
    let (c, r) ← field 16 bs
    .ok (.crc16 (BitVec.ofNat 16 c), r)

/-- The position at which an element is read. -/
def Instr.position : Instr → Position
  | .cmdReset | .cmdOpen | .cmdPull | .cmdReserved3 => .host
  | .marker _ => .marker
  | .mdStreaminfo _ _ | .mdPadding _ _ | .mdApplication _ _ | .mdSeektable _ _ | .mdVorbisComment _ _ | .mdCuesheet _ _ | .mdPicture _ _
    | .mdUnknownTypes7To7 _ _ | .mdUnknownTypes8To15 _ _ _ | .mdUnknownTypes16To31 _ _ _ | .mdUnknownTypes32To63 _ _ _ | .mdUnknownTypes64To127 _ _ _ => .metadata
  | .fhBlocking0 | .fhBlocking1 | .fhBadSync _ | .fhReservedA1 => .sync
  | .fhReservedB1 _ | .fhBps0 | .fhBps1 | .fhBps2 | .fhBps3 | .fhBps4 | .fhBps5 | .fhBps6 | .fhBps7 => .bpsCode
  | .fhBs0 | .fhBs1 | .fhBs2 | .fhBs3 | .fhBs4 | .fhBs5 | .fhBs6 | .fhBs7 | .fhBs8 | .fhBs9 | .fhBs10 | .fhBs11 | .fhBs12 | .fhBs13 | .fhBs14
    | .fhBs15 => .bsCode
  | .fhSr0 | .fhSr1 | .fhSr2 | .fhSr3 | .fhSr4 | .fhSr5 | .fhSr6 | .fhSr7 | .fhSr8 | .fhSr9 | .fhSr10 | .fhSr11 | .fhSr12 | .fhSr13 | .fhSr14
    | .fhSr15 => .srCode
  | .fhCh0 | .fhCh1 | .fhCh2 | .fhCh3 | .fhCh4 | .fhCh5 | .fhCh6 | .fhCh7 | .fhCh8 | .fhCh9 | .fhCh10 | .fhCh11 | .fhCh12 | .fhCh13 | .fhCh14
    | .fhCh15 => .chCode
  | .numLead00 _ | .numLead80 _ | .numLeadC0 _ | .numLeadE0 _ | .numLeadF0 _ | .numLeadF8 _ | .numLeadFC _ | .numLeadFE | .numLeadFF => .number
  | .numContinuation _ => .numCont
  | .bs8 _ => .bs8
  | .bs16 _ => .bs16
  | .sr8 _ => .sr8
  | .sr16 _ => .sr16
  | .sr16x10 _ => .sr16x10
  | .crc8 _ => .crc8
  | .sfReserved1 | .sfConstant _ | .sfVerbatim _ | .sfReservedTypes2To3 _ | .sfReservedTypes4To7 _ | .sfFixed0 _ | .sfFixed1 _ | .sfFixed2 _
    | .sfFixed3 _ | .sfFixed4 _ | .sfReservedType13 | .sfReservedTypes14To15 _ | .sfReservedTypes16To31 _ | .sfLpc1 _ | .sfLpc2 _ | .sfLpc3 _
    | .sfLpc4 _ | .sfLpc5 _ | .sfLpc6 _ | .sfLpc7 _ | .sfLpc8 _ | .sfLpc9 _ | .sfLpc10 _ | .sfLpc11 _ | .sfLpc12 _ | .sfLpc13 _ | .sfLpc14 _
    | .sfLpc15 _ | .sfLpc16 _ | .sfLpc17 _ | .sfLpc18 _ | .sfLpc19 _ | .sfLpc20 _ | .sfLpc21 _ | .sfLpc22 _ | .sfLpc23 _ | .sfLpc24 _ | .sfLpc25 _
    | .sfLpc26 _ | .sfLpc27 _ | .sfLpc28 _ | .sfLpc29 _ | .sfLpc30 _ | .sfLpc31 _ | .sfLpc32 _ => .subframe
  | .resMethod0 _ | .resMethod1 _ | .resMethod2To3 _ => .residual
  | .part4K _ | .part4Escape => .part4
  | .part5K _ | .part5Escape => .part5
  | .esc _ => .esc
  | .pad _ => .pad
  | .crc16 _ => .footer

/-- The number of padding bits of an element: those of the padding, else 0. -/
def Instr.align : Instr → Nat
  | .pad bits => bits.length
  | .cmdReset | .cmdOpen | .cmdPull | .cmdReserved3 | .marker _ | .mdStreaminfo _ _ | .mdPadding _ _ | .mdApplication _ _ | .mdSeektable _ _
    | .mdVorbisComment _ _ | .mdCuesheet _ _ | .mdPicture _ _ | .mdUnknownTypes7To7 _ _ | .mdUnknownTypes8To15 _ _ _ | .mdUnknownTypes16To31 _ _ _
    | .mdUnknownTypes32To63 _ _ _ | .mdUnknownTypes64To127 _ _ _ | .fhBlocking0 | .fhBlocking1 | .fhBadSync _ | .fhReservedA1 | .fhReservedB1 _
    | .fhBs0 | .fhBs1 | .fhBs2 | .fhBs3 | .fhBs4 | .fhBs5 | .fhBs6 | .fhBs7 | .fhBs8 | .fhBs9 | .fhBs10 | .fhBs11 | .fhBs12 | .fhBs13 | .fhBs14
    | .fhBs15 | .fhSr0 | .fhSr1 | .fhSr2 | .fhSr3 | .fhSr4 | .fhSr5 | .fhSr6 | .fhSr7 | .fhSr8 | .fhSr9 | .fhSr10 | .fhSr11 | .fhSr12 | .fhSr13
    | .fhSr14 | .fhSr15 | .fhCh0 | .fhCh1 | .fhCh2 | .fhCh3 | .fhCh4 | .fhCh5 | .fhCh6 | .fhCh7 | .fhCh8 | .fhCh9 | .fhCh10 | .fhCh11 | .fhCh12
    | .fhCh13 | .fhCh14 | .fhCh15 | .fhBps0 | .fhBps1 | .fhBps2 | .fhBps3 | .fhBps4 | .fhBps5 | .fhBps6 | .fhBps7 | .numLead00 _ | .numLead80 _
    | .numLeadC0 _ | .numLeadE0 _ | .numLeadF0 _ | .numLeadF8 _ | .numLeadFC _ | .numLeadFE | .numLeadFF | .numContinuation _ | .bs8 _ | .bs16 _
    | .sr8 _ | .sr16 _ | .sr16x10 _ | .crc8 _ | .sfReserved1 | .sfConstant _ | .sfVerbatim _ | .sfReservedTypes2To3 _ | .sfReservedTypes4To7 _
    | .sfFixed0 _ | .sfFixed1 _ | .sfFixed2 _ | .sfFixed3 _ | .sfFixed4 _ | .sfReservedType13 | .sfReservedTypes14To15 _ | .sfReservedTypes16To31 _
    | .sfLpc1 _ | .sfLpc2 _ | .sfLpc3 _ | .sfLpc4 _ | .sfLpc5 _ | .sfLpc6 _ | .sfLpc7 _ | .sfLpc8 _ | .sfLpc9 _ | .sfLpc10 _ | .sfLpc11 _ | .sfLpc12 _
    | .sfLpc13 _ | .sfLpc14 _ | .sfLpc15 _ | .sfLpc16 _ | .sfLpc17 _ | .sfLpc18 _ | .sfLpc19 _ | .sfLpc20 _ | .sfLpc21 _ | .sfLpc22 _ | .sfLpc23 _
    | .sfLpc24 _ | .sfLpc25 _ | .sfLpc26 _ | .sfLpc27 _ | .sfLpc28 _ | .sfLpc29 _ | .sfLpc30 _ | .sfLpc31 _ | .sfLpc32 _ | .resMethod0 _
    | .resMethod1 _ | .resMethod2To3 _ | .part4K _ | .part4Escape | .part5K _ | .part5Escape | .esc _ | .crc16 _ => 0

/-- The bits of an element on the wire (R80 to R101), and of a command on the command interface (R102). -/
def Instr.encode : Instr → Bits
  | .cmdReset => natToBits 2 0
  | .cmdOpen => natToBits 2 1
  | .cmdPull => natToBits 2 2
  | .cmdReserved3 => natToBits 2 3
  | .marker m => natToBits 32 m.toNat
  | .mdStreaminfo last len => last :: natToBits 7 0 ++ natToBits 24 len.toNat
  | .mdPadding last len => last :: natToBits 7 1 ++ natToBits 24 len.toNat
  | .mdApplication last len => last :: natToBits 7 2 ++ natToBits 24 len.toNat
  | .mdSeektable last len => last :: natToBits 7 3 ++ natToBits 24 len.toNat
  | .mdVorbisComment last len => last :: natToBits 7 4 ++ natToBits 24 len.toNat
  | .mdCuesheet last len => last :: natToBits 7 5 ++ natToBits 24 len.toNat
  | .mdPicture last len => last :: natToBits 7 6 ++ natToBits 24 len.toNat
  | .mdUnknownTypes7To7 last len => last :: natToBits 7 7 ++ natToBits 24 len.toNat
  | .mdUnknownTypes8To15 last t len => last :: natToBits 7 (8 + t.toNat) ++ natToBits 24 len.toNat
  | .mdUnknownTypes16To31 last t len => last :: natToBits 7 (16 + t.toNat) ++ natToBits 24 len.toNat
  | .mdUnknownTypes32To63 last t len => last :: natToBits 7 (32 + t.toNat) ++ natToBits 24 len.toNat
  | .mdUnknownTypes64To127 last t len => last :: natToBits 7 (64 + t.toNat) ++ natToBits 24 len.toNat
  | .fhBlocking0 => natToBits 14 syncCode ++ [false, false]
  | .fhBlocking1 => natToBits 14 syncCode ++ [false, true]
  | .fhBadSync sync => natToBits 14 sync.toNat
  | .fhReservedA1 => natToBits 14 syncCode ++ [true]
  | .fhReservedB1 bps => natToBits 3 bps.toNat ++ [true]
  | .fhBs0 => natToBits 4 0
  | .fhBs1 => natToBits 4 1
  | .fhBs2 => natToBits 4 2
  | .fhBs3 => natToBits 4 3
  | .fhBs4 => natToBits 4 4
  | .fhBs5 => natToBits 4 5
  | .fhBs6 => natToBits 4 6
  | .fhBs7 => natToBits 4 7
  | .fhBs8 => natToBits 4 8
  | .fhBs9 => natToBits 4 9
  | .fhBs10 => natToBits 4 10
  | .fhBs11 => natToBits 4 11
  | .fhBs12 => natToBits 4 12
  | .fhBs13 => natToBits 4 13
  | .fhBs14 => natToBits 4 14
  | .fhBs15 => natToBits 4 15
  | .fhSr0 => natToBits 4 0
  | .fhSr1 => natToBits 4 1
  | .fhSr2 => natToBits 4 2
  | .fhSr3 => natToBits 4 3
  | .fhSr4 => natToBits 4 4
  | .fhSr5 => natToBits 4 5
  | .fhSr6 => natToBits 4 6
  | .fhSr7 => natToBits 4 7
  | .fhSr8 => natToBits 4 8
  | .fhSr9 => natToBits 4 9
  | .fhSr10 => natToBits 4 10
  | .fhSr11 => natToBits 4 11
  | .fhSr12 => natToBits 4 12
  | .fhSr13 => natToBits 4 13
  | .fhSr14 => natToBits 4 14
  | .fhSr15 => natToBits 4 15
  | .fhCh0 => natToBits 4 0
  | .fhCh1 => natToBits 4 1
  | .fhCh2 => natToBits 4 2
  | .fhCh3 => natToBits 4 3
  | .fhCh4 => natToBits 4 4
  | .fhCh5 => natToBits 4 5
  | .fhCh6 => natToBits 4 6
  | .fhCh7 => natToBits 4 7
  | .fhCh8 => natToBits 4 8
  | .fhCh9 => natToBits 4 9
  | .fhCh10 => natToBits 4 10
  | .fhCh11 => natToBits 4 11
  | .fhCh12 => natToBits 4 12
  | .fhCh13 => natToBits 4 13
  | .fhCh14 => natToBits 4 14
  | .fhCh15 => natToBits 4 15
  | .fhBps0 => natToBits 3 0 ++ [false]
  | .fhBps1 => natToBits 3 1 ++ [false]
  | .fhBps2 => natToBits 3 2 ++ [false]
  | .fhBps3 => natToBits 3 3 ++ [false]
  | .fhBps4 => natToBits 3 4 ++ [false]
  | .fhBps5 => natToBits 3 5 ++ [false]
  | .fhBps6 => natToBits 3 6 ++ [false]
  | .fhBps7 => natToBits 3 7 ++ [false]
  | .numLead00 x => natToBits 8 (0x00 + x.toNat)
  | .numLead80 x => natToBits 8 (0x80 + x.toNat)
  | .numLeadC0 x => natToBits 8 (0xC0 + x.toNat)
  | .numLeadE0 x => natToBits 8 (0xE0 + x.toNat)
  | .numLeadF0 x => natToBits 8 (0xF0 + x.toNat)
  | .numLeadF8 x => natToBits 8 (0xF8 + x.toNat)
  | .numLeadFC x => natToBits 8 (0xFC + x.toNat)
  | .numLeadFE => natToBits 8 0xFE
  | .numLeadFF => natToBits 8 0xFF
  | .numContinuation c => natToBits 8 c.toNat
  | .bs8 t => natToBits 8 t.toNat
  | .bs16 t => natToBits 16 t.toNat
  | .sr8 t => natToBits 8 t.toNat
  | .sr16 t => natToBits 16 t.toNat
  | .sr16x10 t => natToBits 16 t.toNat
  | .crc8 crc => natToBits 8 crc.toNat
  | .sfReserved1 => [true]
  | .sfConstant wasted => false :: natToBits 6 0 ++ [wasted]
  | .sfVerbatim wasted => false :: natToBits 6 1 ++ [wasted]
  | .sfReservedTypes2To3 x => false :: natToBits 6 (2 + x.toNat)
  | .sfReservedTypes4To7 x => false :: natToBits 6 (4 + x.toNat)
  | .sfFixed0 wasted => false :: natToBits 6 8 ++ [wasted]
  | .sfFixed1 wasted => false :: natToBits 6 9 ++ [wasted]
  | .sfFixed2 wasted => false :: natToBits 6 10 ++ [wasted]
  | .sfFixed3 wasted => false :: natToBits 6 11 ++ [wasted]
  | .sfFixed4 wasted => false :: natToBits 6 12 ++ [wasted]
  | .sfReservedType13 => false :: natToBits 6 13
  | .sfReservedTypes14To15 x => false :: natToBits 6 (14 + x.toNat)
  | .sfReservedTypes16To31 x => false :: natToBits 6 (16 + x.toNat)
  | .sfLpc1 wasted => false :: natToBits 6 32 ++ [wasted]
  | .sfLpc2 wasted => false :: natToBits 6 33 ++ [wasted]
  | .sfLpc3 wasted => false :: natToBits 6 34 ++ [wasted]
  | .sfLpc4 wasted => false :: natToBits 6 35 ++ [wasted]
  | .sfLpc5 wasted => false :: natToBits 6 36 ++ [wasted]
  | .sfLpc6 wasted => false :: natToBits 6 37 ++ [wasted]
  | .sfLpc7 wasted => false :: natToBits 6 38 ++ [wasted]
  | .sfLpc8 wasted => false :: natToBits 6 39 ++ [wasted]
  | .sfLpc9 wasted => false :: natToBits 6 40 ++ [wasted]
  | .sfLpc10 wasted => false :: natToBits 6 41 ++ [wasted]
  | .sfLpc11 wasted => false :: natToBits 6 42 ++ [wasted]
  | .sfLpc12 wasted => false :: natToBits 6 43 ++ [wasted]
  | .sfLpc13 wasted => false :: natToBits 6 44 ++ [wasted]
  | .sfLpc14 wasted => false :: natToBits 6 45 ++ [wasted]
  | .sfLpc15 wasted => false :: natToBits 6 46 ++ [wasted]
  | .sfLpc16 wasted => false :: natToBits 6 47 ++ [wasted]
  | .sfLpc17 wasted => false :: natToBits 6 48 ++ [wasted]
  | .sfLpc18 wasted => false :: natToBits 6 49 ++ [wasted]
  | .sfLpc19 wasted => false :: natToBits 6 50 ++ [wasted]
  | .sfLpc20 wasted => false :: natToBits 6 51 ++ [wasted]
  | .sfLpc21 wasted => false :: natToBits 6 52 ++ [wasted]
  | .sfLpc22 wasted => false :: natToBits 6 53 ++ [wasted]
  | .sfLpc23 wasted => false :: natToBits 6 54 ++ [wasted]
  | .sfLpc24 wasted => false :: natToBits 6 55 ++ [wasted]
  | .sfLpc25 wasted => false :: natToBits 6 56 ++ [wasted]
  | .sfLpc26 wasted => false :: natToBits 6 57 ++ [wasted]
  | .sfLpc27 wasted => false :: natToBits 6 58 ++ [wasted]
  | .sfLpc28 wasted => false :: natToBits 6 59 ++ [wasted]
  | .sfLpc29 wasted => false :: natToBits 6 60 ++ [wasted]
  | .sfLpc30 wasted => false :: natToBits 6 61 ++ [wasted]
  | .sfLpc31 wasted => false :: natToBits 6 62 ++ [wasted]
  | .sfLpc32 wasted => false :: natToBits 6 63 ++ [wasted]
  | .resMethod0 porder => natToBits 2 0 ++ natToBits 4 porder.toNat
  | .resMethod1 porder => natToBits 2 1 ++ natToBits 4 porder.toNat
  | .resMethod2To3 x => natToBits 2 (2 + x.toNat)
  | .part4K k => natToBits 4 k.toNat
  | .part4Escape => natToBits 4 15
  | .part5K k => natToBits 5 k.toNat
  | .part5Escape => natToBits 5 31
  | .esc width => natToBits 5 width.toNat
  | .pad bits => bits
  | .crc16 crc => natToBits 16 crc.toNat

/-- Where a word given by its table numbering is read: the position, and how many of the word's low bits lie from there on.
The table gives a word no position, and one word can match rows of several positions.
The order of choice is the model's (log entry 6): a byte below 4 is a command code, 15 and 31 are the escapes,
another byte is a subframe header below 128 and a number's first byte above; 16 bits are a footer;
32 bits are the marker, a header word, one code field of a header word whose other bits are 0, or else a metadata header. -/
def tableSlot (nbits w : Nat) : Position × Nat :=
  if nbits = 0 then (.pad, 0)
  else if nbits ≤ 8 then
    if w < 4 then (.host, 2)
    else if w = 15 then (.part4, 4)
    else if w = 31 then (.part5, 5)
    else if w < 128 then (.subframe, 8)
    else (.number, 8)
  else if nbits ≤ 16 then (.footer, 16)
  else if w = streamMarker then (.marker, 32)
  else if w / 2 ^ 18 = syncCode then (.sync, 32)
  else if w = 0 then (.metadata, 32)
  else if w &&& 0xF000 = w then (.bsCode, 16)
  else if w &&& 0xF00 = w then (.srCode, 12)
  else if w &&& 0xF0 = w then (.chCode, 8)
  else if w &&& 0xF = w then (.bpsCode, 4)
  else (.metadata, 32)

/-- The instruction the decoder reads from a word of the opcode table: the word's bits from its position on, zeros after them. -/
def decodeTableWord (nbits w : Nat) : Option Instr :=
  let (pos, k) := tableSlot nbits w
  match decode pos 0 (natToBits k w ++ natToBits 32 0) with
  | .ok (i, _) => some i
  | .error _ => none

end Sys2Proof
end

