-- ==== Sys2Proof/Machine/State.lean ====
section
/-!
DEFINITION. The state of the core as plain data (rules R20 to R42), with the byte source's answers to come, the host's
inputs to come and the records emitted so far, and the state after reset (R42, R330).
-/

namespace Sys2Proof.Machine

/-- `STATE`, the sequencer register (R21). -/
inductive CoreState where
  | idle
  | ready
  | ended
  | failed
deriving DecidableEq, Repr

/-- `LAST_RESULT` (R35), in the order of its codes 0 to 5. -/
inductive LastResult where
  | noResult
  | opened
  | frame
  | ended
  | error
  | rejected
deriving DecidableEq, Repr

/-- Channel assignment, `FH_ASSIGN` (R28, R88). -/
inductive Assignment where
  | independent
  | leftSide
  | rightSide
  | middleSide
deriving DecidableEq, Repr

/-- Subframe kind, `SF_KIND` (R29). -/
inductive SubframeKind where
  | constant
  | verbatim
  | fixed
  | lpc
deriving DecidableEq, Repr

/-- Error kinds (R302), in the order of their codes 1 to 20. -/
inductive ErrorKind where
  | ioError
  | unexpectedEof
  | invalidSync
  | invalidReservedBit
  | invalidChannelAssignment
  | invalidChecksum
  | invalidSubframeType
  | invalidCodingMethod
  | invalidLpcPrecision
  | widthOutOfRange
  | metadataFormat
  | invalidBlockSizeCode
  | invalidSampleRateCode
  | invalidBpsCode
  | invalidFrameNumber
  | invalidLpcShift
  | invalidPartition
  | valueOutOfRange
  | invalidBlockSize
  | invalidPadding
deriving DecidableEq, Repr

/-- One answer of the byte source to `SrcRead()` (R61). `Eof` is not listed: it is what an exhausted list answers,
again and again, until the host repositions the source. -/
inductive SrcAnswer where
  | byte (b : Byte)
  | ioErr (code : BitVec 32)
deriving DecidableEq, Repr

/-- What the host does between commands (R20, R75, R270, R332). -/
inductive HostInput where
  /-- presents a 2-bit command code -/
  | command (cmd : BitVec 2)
  /-- presents or repositions the byte source: the answers it gives from now on -/
  | source (answers : List SrcAnswer)
deriving DecidableEq, Repr

/-- The StreamInfo registers (R27). -/
structure StreamInfo where
  minBlock : BitVec 16
  maxBlock : BitVec 16
  minFrame : BitVec 24
  maxFrame : BitVec 24
  rate : BitVec 20
  channels : BitVec 4
  bps : BitVec 6
  total : BitVec 36
  md5 : BitVec 128
  valid : Bool
deriving DecidableEq, Repr

/-- The frame-header registers (R28). `blocking` is false for a fixed block size. -/
structure FrameHeader where
  blocking : Bool
  bsCode : BitVec 4
  srCode : BitVec 4
  chCode : BitVec 4
  bpsCode : BitVec 3
  number : BitVec 64
  blockSize : BitVec 17
  rate : BitVec 20
  channels : BitVec 4
  assign : Assignment
  bps : BitVec 6
  crc8 : BitVec 8
deriving DecidableEq, Repr

/-- The subframe registers (R29). -/
structure Subframe where
  ch : BitVec 3
  type : BitVec 6
  kind : SubframeKind
  order : BitVec 6
  wasted : BitVec 6
  fullW : BitVec 6
  w : BitVec 6
deriving DecidableEq, Repr

/-- The LPC registers (R30). -/
structure Lpc where
  prec : BitVec 5
  shift : BitVec 5
  qlp : Vector (BitVec 15) 32
deriving DecidableEq, Repr

/-- The residual registers (R31). -/
structure Residual where
  method : BitVec 2
  porder : BitVec 4
  pw : BitVec 3
  part : BitVec 16
  param : BitVec 5
  escBits : BitVec 5
deriving DecidableEq, Repr

/-- The error register `ERR` (R34). -/
structure ErrorReg where
  kind : BitVec 8
  sub : BitVec 8
  bytePos : BitVec 64
  bitsLeft : BitVec 4
  ioCode : BitVec 32
deriving DecidableEq, Repr

/-- The metadata sequencing registers (R37). -/
structure Metadata where
  count : BitVec 32
  last : Bool
  type : BitVec 7
  len : BitVec 24
deriving DecidableEq, Repr

/-- The sequencer between the values of `STATE` (R21), the model's own (log entry 1): the position of the next element,
and the number being assembled over its following bytes (R180: bytes to come, value so far). -/
structure Sequencer where
  pos : Position
  numLeft : BitVec 3
  numAcc : BitVec 36
deriving DecidableEq, Repr

/-- A sample RAM (R32, R33): entries (channel · 65536 + index, value), addresses strictly rising.
An unlisted address holds no value. -/
abbrev SampleRam := List (Nat × Int)

/-- The body of a metadata record (R280). -/
inductive MetadataBody where
  | streamInfo (minBlock maxBlock : BitVec 16) (minFrame maxFrame : BitVec 24) (rate : BitVec 20) (channels : BitVec 4)
      (bps : BitVec 6) (total : BitVec 36) (md5 : BitVec 128)
  | raw (bytes : List Byte)
deriving DecidableEq, Repr

/-- A metadata record (R280). -/
structure MetadataRecord where
  last : Bool
  type : BitVec 7
  length : BitVec 24
  body : MetadataBody
deriving DecidableEq, Repr

/-- The number of a frame record (R186). -/
inductive FrameNumber where
  | frameNumber (n : BitVec 32)
  | sampleNumber (n : BitVec 64)
deriving DecidableEq, Repr

/-- A frame record (R281). -/
structure FrameRecord where
  blocking : Bool
  number : FrameNumber
  blockSize : BitVec 17
  sampleRate : BitVec 20
  channels : BitVec 4
  assignment : Assignment
  bitsPerSample : BitVec 6
  crc8 : BitVec 8
  crc16 : BitVec 16
  samples : List (List Int)
deriving DecidableEq, Repr

/-- Why the machine stops. -/
inductive Fault where
  /-- An instruction reads a `SUB` entry that holds no value (R32: "holding no value"; no rule reads one, R200).
  Raised by `readSample`. Safe: the model stops. -/
  | unwrittenSample
  /-- An instruction accesses a sample outside the `MAX_CHANNELS` rows of `MAX_BLOCK` entries (R66: with R7's values no rule does).
  Raised by `readSample`, `writeSample`, `writeOut`. Safe: the model stops. -/
  | sampleAddress
  /-- A command meets a command that still runs (R335: "A model does not offer that transition").
  Raised by the commands' meanings. Safe: the model stops. -/
  | overlappingCommand
  /-- The host presents or repositions the byte source outside `IDLE` and `READY` (R75, R332, R336: no move).
  Raised by `step`. Safe: the model stops. -/
  | sourceMovedOutsideContract
deriving DecidableEq, Repr

/-- Why an instruction has no meaning. -/
inductive Refusal where
  /-- The instruction's arm of `exec` has no meaning yet. No arm answers it. Safe. -/
  | notModelled (mnemonic : String)
  /-- The bits at the sequencer's position decode to no instruction. Raised by `step` and `elementStep`.
  Safe; never answered, since every bit pattern decodes (R104) and the decoder gets enough bits. -/
  | undecodable (e : DecodeError)
deriving DecidableEq, Repr

/-- The machine: every register of rules R21 to R38, the two sample RAMs, what the host and the byte source will do next, and
the records emitted so far. -/
structure State where
  /-- the configuration: R7's sizes and orders, and the registers of R38 -/
  cfg : Config
  /-- `STATE` (R21) -/
  state : CoreState
  /-- `BUF` (R23) -/
  buf : Byte
  /-- `BITS_LEFT`, 0 to 8 (R23) -/
  bitsLeft : Nat
  /-- `BYTEPOS` (R23) -/
  bytePos : BitVec 64
  /-- `CRC8` (R24) -/
  crc8 : BitVec 8
  /-- `CRC8_EN` (R24) -/
  crc8En : Bool
  /-- `CRC16` (R25) -/
  crc16 : BitVec 16
  /-- `CRC16_EN` (R25) -/
  crc16En : Bool
  /-- `AT_PULL_START` (R26) -/
  atPullStart : Bool
  /-- `SI_*` (R27) -/
  si : StreamInfo
  /-- `FH_*` (R28) -/
  fh : FrameHeader
  /-- `SF_*` (R29) -/
  sf : Subframe
  /-- `LPC_*` and `QLP` (R30) -/
  lpc : Lpc
  /-- `RES_*` (R31) -/
  res : Residual
  /-- `SUB`: the entries the current frame has written (R32) -/
  sub : SampleRam
  /-- `SUB`: what earlier frames wrote, kept (R306) but holding no value for the current frame (R32; log entry 16) -/
  subEarlier : SampleRam
  /-- `OUT` (R33) -/
  out : SampleRam
  /-- `ERR` (R34) -/
  err : ErrorReg
  /-- `LAST_RESULT` (R35) -/
  lastResult : LastResult
  /-- `FRAMES_OK` (R36) -/
  framesOk : BitVec 64
  /-- `SAMPLES_OUT` (R36) -/
  samplesOut : BitVec 64
  /-- `MD_*` (R37) -/
  md : Metadata
  /-- the sequencer's position, the model's own (log entry 1) -/
  seq : Sequencer
  /-- the byte source's answers to come (R61, R62) -/
  src : List SrcAnswer
  /-- the host's inputs to come (R270, R283) -/
  host : List HostInput
  /-- the port `MetadataOut`, oldest record first (R272) -/
  metadataOut : List MetadataRecord
  /-- the port `FrameOut`, oldest record first (R272) -/
  frameOut : List FrameRecord
deriving DecidableEq, Repr

/-- The core right after power-on reset (R42, R330), no source presented and no command queued.
`SUB` and `OUT` hold no value; every other register has the value of R42's table. -/
def State.reset : State where
  cfg := .default
  state := .idle
  buf := 0
  bitsLeft := 0
  bytePos := 0
  crc8 := 0
  crc8En := false
  crc16 := 0
  crc16En := false
  atPullStart := false
  si :=
    { minBlock := 0, maxBlock := 0, minFrame := 0, maxFrame := 0, rate := 0, channels := 0, bps := 0, total := 0, md5 := 0,
      valid := false }
  fh :=
    { blocking := false, bsCode := 0, srCode := 0, chCode := 0, bpsCode := 0, number := 0, blockSize := 0, rate := 0,
      channels := 0, assign := .independent, bps := 0, crc8 := 0 }
  sf := { ch := 0, type := 0, kind := .constant, order := 0, wasted := 0, fullW := 0, w := 0 }
  lpc := { prec := 0, shift := 0, qlp := Vector.replicate 32 0 }
  res := { method := 0, porder := 0, pw := 0, part := 0, param := 0, escBits := 0 }
  sub := []
  subEarlier := []
  out := []
  err := { kind := 0, sub := 0, bytePos := 0, bitsLeft := 0, ioCode := 0 }
  lastResult := .noResult
  framesOk := 0
  samplesOut := 0
  md := { count := 0, last := false, type := 0, len := 0 }
  seq := { pos := .host, numLeft := 0, numAcc := 0 }
  src := []
  host := []
  metadataOut := []
  frameOut := []

end Sys2Proof.Machine
end

