-- ==== Sys2Proof/Machine/Flags.lean ====
section
/-!
DEFINITION. What the core computes to judge what it has read: the two checksums (R131, R132), the range test (R10),
the codes of the result and error registers (R35, R302).
-/

namespace Sys2Proof.Machine

/-- One round of the CRC-8 update (R131). -/
def crc8Round (c : BitVec 8) : BitVec 8 := if c.msb then (c <<< 1) ^^^ crc8Poly else c <<< 1

/-- One round of the CRC-16 update (R132). -/
def crc16Round (c : BitVec 16) : BitVec 16 := if c.msb then (c <<< 1) ^^^ crc16Poly else c <<< 1

/-- `crc8_step(c, b)` (R131). -/
def crc8Step (c : BitVec 8) (b : Byte) : BitVec 8 :=
  let r := crc8Round
  r (r (r (r (r (r (r (r (c ^^^ b))))))))

/-- `crc16_step(c, b)` (R132). -/
def crc16Step (c : BitVec 16) (b : Byte) : BitVec 16 :=
  let r := crc16Round
  r (r (r (r (r (r (r (r (c ^^^ (b.setWidth 16 <<< 8)))))))))

/-- `inrange_w(v)` (R10). -/
def inRange (w : Nat) (v : Int) : Bool := decide (-(2 ^ (w - 1) : Int) ≤ v ∧ v ≤ 2 ^ (w - 1) - 1)

/-- The value of `ERR.KIND` for a kind (R302). -/
def ErrorKind.code : ErrorKind → BitVec 8
  | .ioError => 1
  | .unexpectedEof => 2
  | .invalidSync => 3
  | .invalidReservedBit => 4
  | .invalidChannelAssignment => 5
  | .invalidChecksum => 6
  | .invalidSubframeType => 7
  | .invalidCodingMethod => 8
  | .invalidLpcPrecision => 9
  | .widthOutOfRange => 10
  | .metadataFormat => 11
  | .invalidBlockSizeCode => 12
  | .invalidSampleRateCode => 13
  | .invalidBpsCode => 14
  | .invalidFrameNumber => 15
  | .invalidLpcShift => 16
  | .invalidPartition => 17
  | .valueOutOfRange => 18
  | .invalidBlockSize => 19
  | .invalidPadding => 20

/-- The 3-bit code of `LAST_RESULT` (R35). -/
def LastResult.code : LastResult → BitVec 3
  | .noResult => 0
  | .opened => 1
  | .frame => 2
  | .ended => 3
  | .error => 4
  | .rejected => 5

/-- The positions inside OPEN (R140). -/
def inOpen : Position → Bool
  | .marker | .metadata => true
  | .host | .sync | .bsCode | .srCode | .chCode | .bpsCode | .number | .numCont | .bs8 | .bs16 | .sr8 | .sr16 | .sr16x10
    | .crc8 | .subframe | .residual | .part4 | .part5 | .esc | .pad | .footer => false

/-- Whether the frame's block size passes the bounds of R184; else the sub-code of `INVALID_BLOCK_SIZE` (R303). -/
def blockSizeFault (check : BlockSizeCheck) (n minBlock maxBlock : Nat) : Option Nat :=
  match check with
  | .off => none
  | .max => if n > maxBlock then some 0 else none
  | .minMax => if n > maxBlock then some 0 else if n < minBlock then some 1 else none

end Sys2Proof.Machine
end

