-- ==== Sys2Proof/Machine/Ops.lean ====
section
/-!
DEFINITION. The named operations over the state: the command's control flow, error entry (R301 to R308), the bit
reader (R120 to R135), the sample RAMs (R66) and the output ports (R272).
-/

namespace Sys2Proof.Machine

/-- Why an operation does not go on: the command has ended (an error was taken, R301, or the sequence ended, R276),
or the model stops. -/
inductive Stop where
  | ended
  | fault (f : Fault)
deriving DecidableEq, Repr

/-- An operation of the core: it changes the state, and answers a value or a reason not to go on. -/
abbrev M := EStateM Stop State

/-- Changes the state. -/
def update (f : State → State) : M Unit := fun s => .ok () (f s)

/-- Reads the state. -/
def ask {α : Type} (f : State → α) : M α := fun s => .ok (f s) s

/-- Stops the model. -/
def crash {α : Type} (f : Fault) : M α := fun s => .error (.fault f) s

/-- Ends the running command in the state `f` makes. -/
def finish {α : Type} (f : State → State) : M α := fun s => .error .ended (f s)

/-- The step an operation makes of a state. -/
def outcome (m : M Unit) (s : State) : Host.Outcome State Fault Refusal :=
  match m s with
  | .ok _ t => .next t
  | .error .ended t => .next t
  | .error (.fault f) _ => .fault f

/-- Moves the sequencer (`STATE <- s` of R11 for the steps inside a command). -/
def goto (p : Position) : M Unit := update fun s => { s with seq.pos := p }

/-- `for i in start .. start + count - 1: f i`. -/
def forRange (start : Nat) : Nat → (Nat → M Unit) → M Unit
  | 0, _ => pure ()
  | n + 1, f => do
    f start
    forRange (start + 1) n f

/-! ### Ending a command -/

/-- Every exit of a PULL (R275) and every error (R306): both checksums and `AT_PULL_START` off.
The sequencer is back between commands. -/
def exitCommand (s : State) : State :=
  { s with crc8En := false, crc16En := false, atPullStart := false, seq.pos := .host }

/-- ERROR ENTRY: what an error of kind k, sub-code sub, writes (R304), keeps (R306) and where it leaves `STATE` (R307, R308).
`io` is the byte source's code for `IO_ERROR` and 0 for every other kind (R310). There is no handler and no return (R309). -/
def errorEntry (k : ErrorKind) (sub : Nat) (io : BitVec 32) (s : State) : State :=
  exitCommand
    { s with
      err :=
        { kind := k.code, sub := BitVec.ofNat 8 sub, bytePos := s.bytePos, bitsLeft := BitVec.ofNat 4 s.bitsLeft,
          ioCode := io }
      lastResult := .error
      state := if inOpen s.seq.pos then .failed else s.state }

/-- The end of the frame sequence (R276). -/
def endOfSequence (s : State) : State := exitCommand { s with state := .ended, lastResult := .ended }

/-- `raise k(sub)` (R301). -/
def raise {α : Type} (k : ErrorKind) (sub : Nat) : M α := finish (errorEntry k sub 0)

/-- `if c: raise k(sub)`. -/
def raiseIf (c : Bool) (k : ErrorKind) (sub : Nat) : M Unit := if c then raise k sub else pure ()

/-! ### Bit reader -/

/-- The state after FETCH of the byte b, the answers `rest` still to come (R121). -/
def fetched (b : Byte) (rest : List SrcAnswer) (s : State) : State :=
  { s with
    src := rest
    buf := b
    bitsLeft := 8
    bytePos := s.bytePos + 1
    atPullStart := false
    crc8 := if s.crc8En then crc8Step s.crc8 b else s.crc8
    crc16 := if s.crc16En then crc16Step s.crc16 b else s.crc16 }

/-- FETCH (R121, R133, R134). -/
def fetch : M Unit := fun s =>
  match s.src with
  | .byte b :: rest => .ok () (fetched b rest s)
  | [] => if s.atPullStart then .error .ended (endOfSequence s) else .error .ended (errorEntry .unexpectedEof 0 0 s)
  | .ioErr e :: rest => .error .ended (errorEntry .ioError 0 e { s with src := rest })

/-- The second half of READ_BIT: takes the next bit of `BUF` (R122). -/
def takeBit : M Bool := fun s => .ok (s.buf.getLsbD (s.bitsLeft - 1)) { s with bitsLeft := s.bitsLeft - 1 }

/-- READ_BIT (R122). -/
def readBit : M Bool := do
  let left ← ask State.bitsLeft
  if left = 0 then do
    fetch
    takeBit
  else takeBit

/-- `repeat n times: v <- (v << 1) | READ_BIT()` (R123). -/
def readUFrom (v : Nat) : Nat → M Nat
  | 0 => pure v
  | n + 1 => do
    let b ← readBit
    readUFrom (2 * v + b.toNat) n

/-- READ_U(n) (R123). -/
def readU (n : Nat) : M Nat := readUFrom 0 n

/-- `sext_n(v)` (R10). -/
def sext (n v : Nat) : Int := if n = 0 then 0 else if v.testBit (n - 1) then (v : Int) - 2 ^ n else v

/-- READ_S(n) (R124). -/
def readS (n : Nat) : M Int := do
  let v ← readU n
  pure (sext n v)

/-- READ_U(n) of a field whose value the instruction already holds as an operand. -/
def skipBits (n : Nat) : M Unit := do
  let _ ← readU n
  pure ()

/-- The loop of READ_UNARY with q zeros read: up to `left` more zeros pass, the next one raises k(sub) (R125). -/
def unaryFrom (q : Nat) (k : ErrorKind) (sub : Nat) : Nat → M Nat
  | 0 => do
    let b ← readBit
    if b then pure q else raise k sub
  | left + 1 => do
    let b ← readBit
    if b then pure q else unaryFrom (q + 1) k sub left

/-- READ_UNARY(limit, k(sub)) (R125). A negative limit raises at the first zero, as limit 0 does. -/
def readUnary (limit : Int) (k : ErrorKind) (sub : Nat) : M Nat := unaryFrom 0 k sub limit.toNat

/-- n whole bytes in stream order (R155). -/
def readBytes : Nat → M (List Byte)
  | 0 => pure []
  | n + 1 => do
    let b ← readU 8
    let bs ← readBytes n
    pure (BitVec.ofNat 8 b :: bs)

/-- ALIGN_DISCARD() (R126). -/
def alignDiscard (s : State) : State := { s with bitsLeft := 0 }

/-- CRC_BEGIN() (R128). -/
def crcBegin (s : State) : State := { s with crc8 := 0, crc16 := 0, crc8En := true, crc16En := true }

/-- CRC8_STOP() (R129). -/
def crc8Stop : M Unit := update fun s => { s with crc8En := false }

/-- CRC16_STOP() (R130). -/
def crc16Stop : M Unit := update fun s => { s with crc16En := false }

/-- CHECK_WIDTH(n, sub) (R135). -/
def checkWidth (n sub : Nat) : M Unit := do
  let most ← ask fun s => s.cfg.maxReadWidth
  raiseIf (decide (n < 1 ∨ n > most)) .widthOutOfRange sub

/-! ### Sample RAMs -/

/-- The address of entry (c, i) (R66). -/
def sampleKey (c i : Nat) : Nat := c * topBlock + i

/-- Whether entry (c, i) exists: MAX_CHANNELS rows of MAX_BLOCK entries (R7, R32, R66). -/
def sampleExists (cfg : Config) (c i : Nat) : Bool := decide (c < cfg.maxChannels.val ∧ i < cfg.maxBlock.val)

/-- The value held at an address; none where it holds no value (R32). -/
def SampleRam.read (key : Nat) : SampleRam → Option Int
  | [] => none
  | (k, v) :: rest => if k = key then some v else SampleRam.read key rest

/-- Sets the value at an address, addresses kept strictly rising. -/
def SampleRam.write (key : Nat) (v : Int) : SampleRam → SampleRam
  | [] => [(key, v)]
  | (k, u) :: rest =>
    if key < k then (key, v) :: (k, u) :: rest
    else if key = k then (key, v) :: rest
    else (k, u) :: SampleRam.write key v rest

/-- The entries of a sample RAM written over another's. -/
def SampleRam.over (new old : SampleRam) : SampleRam := new.foldl (fun ram e => SampleRam.write e.1 e.2 ram) old

/-- A frame begins: it has written no entry of `SUB` yet (R32), and the entries of earlier frames are kept (R306). -/
def newFrame (s : State) : State := { s with sub := [], subEarlier := s.sub.over s.subEarlier }

/-- MemRead(c, i) (R66); a read of an entry that holds no value stops the model (R32, log entry 3). -/
def readSample (c i : Nat) : M Int := do
  let cfg ← ask State.cfg
  if sampleExists cfg c i then do
    let v ← ask fun s => SampleRam.read (sampleKey c i) s.sub
    match v with
    | some x => pure x
    | none => crash .unwrittenSample
  else crash .sampleAddress

/-- MemWrite(c, i, v) (R66). -/
def writeSample (c i : Nat) (v : Int) : M Unit := do
  let cfg ← ask State.cfg
  if sampleExists cfg c i then update fun s => { s with sub := SampleRam.write (sampleKey c i) v s.sub }
  else crash .sampleAddress

/-- `OUT[c][i] <- v` (R258). -/
def writeOut (c i : Nat) (v : Int) : M Unit := do
  let cfg ← ask State.cfg
  if sampleExists cfg c i then update fun s => { s with out := SampleRam.write (sampleKey c i) v s.out }
  else crash .sampleAddress

/-! ### Output ports -/

/-- `emit MetadataOut(record)` (R272, R280). -/
def emitMetadata (r : MetadataRecord) : M Unit := update fun s => { s with metadataOut := s.metadataOut ++ [r] }

/-- `emit FrameOut(record)` (R272, R281). -/
def emitFrame (r : FrameRecord) : M Unit := update fun s => { s with frameOut := s.frameOut ++ [r] }

end Sys2Proof.Machine
end

