-- ==== Sys2Proof/Machine/Operands.lean ====
section
/-!
DEFINITION. How the values an instruction works on are made from what the stream holds: the code tables (R86 to R89),
Rice codewords (R236, R237), partition sizes (R233), predictions (R208 to R215) and runs of samples.
-/

namespace Sys2Proof.Machine

/-- BS(code) for the codes with a fixed size (R176); none for the reserved code 0 and the codes 6 and 7 of the trailing fields. -/
def fixedBlockSize (code : Nat) : Option Nat :=
  match code with
  | 1 => some 192
  | 2 | 3 | 4 | 5 => some (576 <<< (code - 2))
  | 8 | 9 | 10 | 11 | 12 | 13 | 14 | 15 => some (256 <<< (code - 8))
  | _ => none

/-- SR(code) for the codes without a trailing field (R182); none for the trailing codes 12 to 14 and the invalid code 15. -/
def fixedRate (code : Nat) (siRate : BitVec 20) : Option Nat :=
  match code with
  | 0 => some siRate.toNat
  | 1 => some 88200
  | 2 => some 176400
  | 3 => some 192000
  | 4 => some 8000
  | 5 => some 16000
  | 6 => some 22050
  | 7 => some 24000
  | 8 => some 32000
  | 9 => some 44100
  | 10 => some 48000
  | 11 => some 96000
  | _ => none

/-- The assignment and channel count of a channel-assignment code; none for 11 to 15 (R177). -/
def channelLayout (code : Nat) : Option (Assignment × Nat) :=
  if code ≤ 7 then some (.independent, code + 1)
  else
    match code with
    | 8 => some (.leftSide, 2)
    | 9 => some (.rightSide, 2)
    | 10 => some (.middleSide, 2)
    | _ => none

/-- Bits per sample of a bits-per-sample code; none for the reserved code 3 (R178). -/
def sampleDepth (code : Nat) (siBps : BitVec 6) : Option Nat :=
  match code with
  | 0 => some siBps.toNat
  | 1 => some 8
  | 2 => some 12
  | 4 => some 16
  | 5 => some 20
  | 6 => some 24
  | 7 => some 32
  | _ => none

/-- Whether subframe c is the side subframe of an assignment (R200). -/
def isSide (a : Assignment) (c : Nat) : Bool :=
  match a with
  | .independent => false
  | .leftSide => c == 1
  | .rightSide => c == 0
  | .middleSide => c == 1

/-- FOLD(u) (R237). -/
def fold (u : Nat) : Int := if u % 2 = 0 then (u / 2 : Nat) else -((u / 2 : Nat) : Int) - 1

/-- RICE(k) (R236). -/
def readRice (k : Nat) : M Int := do
  let q ← readUnary (2 ^ (32 - k) - 1) .valueOutOfRange 1
  let r ← readU k
  pure (fold (q * 2 ^ k + r))

/-- PART_SIZE(j) for block size n, predictor order p and partition order o (R233). -/
def partSize (n p o j : Nat) : Nat := if j = 0 then (n >>> o) - p else n >>> o

/-- The index of the first value of partition j: the running i of R230. -/
def partStart (n p o j : Nat) : Nat := if j = 0 then p else j * (n >>> o)

/-- `a >> k`: floor of a / 2^k (R10). -/
def asr (a : Int) (k : Nat) : Int := a / 2 ^ k

/-- The fixed predictor's coefficients of order p, the most recent sample's first (R208 to R212). -/
def fixedCoefs (p : Nat) : List Int :=
  match p with
  | 1 => [1]
  | 2 => [2, -1]
  | 3 => [3, -3, 1]
  | 4 => [4, -6, 4, -1]
  | _ => []

/-- Σ over j of coefficient j · SUB[c][i - 1 - j] (R208 to R212, R215). -/
def historySum (c : Nat) : List Int → Nat → M Int
  | [], _ => pure 0
  | q :: qs, i => do
    let x ← readSample c (i - 1)
    let rest ← historySum c qs (i - 1)
    pure (q * x + rest)

/-- Writes `count` values, each made by `read`, into SUB[c] from index i on. -/
def readSamples (c : Nat) (read : M Int) : Nat → Nat → M Unit
  | _, 0 => pure ()
  | i, n + 1 => do
    let v ← read
    writeSample c i v
    readSamples c read (i + 1) n

end Sys2Proof.Machine
end

