-- ==== Sys2Proof/Machine/Channel.lean ====
section
/-!
DEFINITION. The channel reconstructor (R250 to R255), the channel loop that leads to it (R200), and the elements after
the last subframe: padding (R256), footer (R257) and commit (R258).
-/

namespace Sys2Proof.Machine

/-- LeftSide (R252). -/
def reconstructLeftSide (n : Nat) : M Unit :=
  forRange 0 n fun i => do
    let left ← readSample 0 i
    let side ← readSample 1 i
    writeSample 1 i (left - side)

/-- RightSide (R253). -/
def reconstructRightSide (n : Nat) : M Unit :=
  forRange 0 n fun i => do
    let side ← readSample 0 i
    let right ← readSample 1 i
    writeSample 0 i (side + right)

/-- `combined` of a mid and a side sample (R254). -/
def combined (mid side : Int) : Int := 2 * mid + side % 2

/-- MiddleSide (R254). -/
def reconstructMiddleSide (n : Nat) : M Unit :=
  forRange 0 n fun i => do
    let mid ← readSample 0 i
    let side ← readSample 1 i
    writeSample 0 i (asr (combined mid side + side) 1)
    writeSample 1 i (asr (combined mid side - side) 1)

/-- The dispatch of R250; Independent leaves `SUB` unchanged (R251). -/
def reconstructChannels (a : Assignment) (n : Nat) : M Unit :=
  match a with
  | .independent => pure ()
  | .leftSide => reconstructLeftSide n
  | .rightSide => reconstructRightSide n
  | .middleSide => reconstructMiddleSide n

/-- The output range check (R255), channel by channel, then index by index. -/
def checkOutputRange (channels n w : Nat) : M Unit :=
  forRange 0 channels fun c =>
    forRange 0 n fun i => do
      let v ← readSample c i
      raiseIf (!inRange w v) .valueOutOfRange 2

/-- Step 7 of PULL (R275): reconstruction and its range check, then on to the padding. -/
def finishChannels : M Unit := do
  let fh ← ask State.fh
  reconstructChannels fh.assign fh.blockSize.toNat
  let check ← ask fun s => s.cfg.rangeCheck
  if check then do
    checkOutputRange fh.channels.toNat fh.blockSize.toNat fh.bps.toNat
    goto .pad
  else goto .pad

/-- The channel loop's turn for channel c (R200): sets up subframe c, or ends the loop after the last channel. -/
def startChannel (c : Nat) : M Unit := do
  let fh ← ask State.fh
  if c < fh.channels.toNat then do
    update fun s =>
      { s with
        sf.ch := BitVec.ofNat 3 c
        sf.fullW := BitVec.ofNat 6 (fh.bps.toNat + (isSide fh.assign c).toNat) }
    goto .subframe
  else finishChannels

/-- PAD (R256). -/
def framePadding (bits : Bits) : M Unit := do
  let left ← ask State.bitsLeft
  skipBits left
  let check ← ask fun s => s.cfg.paddingCheck
  raiseIf (check && bits.any id) .invalidPadding 0
  goto .footer

/-- Copies row c of `SUB` to `OUT` from index i on, answering the values (R258). -/
def commitRow (c : Nat) : Nat → Nat → M (List Int)
  | _, 0 => pure []
  | i, n + 1 => do
    let v ← readSample c i
    writeOut c i v
    let rest ← commitRow c (i + 1) n
    pure (v :: rest)

/-- Copies rows c, c + 1, … of `SUB` to `OUT` (R258). -/
def commitRows (n : Nat) : Nat → Nat → M (List (List Int))
  | _, 0 => pure []
  | c, k + 1 => do
    let row ← commitRow c 0 n
    let rest ← commitRows n (c + 1) k
    pure (row :: rest)

/-- The number of a frame record (R186). -/
def recordNumber (fh : FrameHeader) : FrameNumber :=
  if fh.blocking then .sampleNumber fh.number else .frameNumber (fh.number.setWidth 32)

/-- The frame record (R281). -/
def frameRecord (fh : FrameHeader) (crc16 : BitVec 16) (samples : List (List Int)) : FrameRecord where
  blocking := fh.blocking
  number := recordNumber fh
  blockSize := fh.blockSize
  sampleRate := fh.rate
  channels := fh.channels
  assignment := fh.assign
  bitsPerSample := fh.bps
  crc8 := fh.crc8
  crc16 := crc16
  samples := samples

/-- What the commit writes besides `OUT` and the record, and the exit of the PULL (R258, R275). -/
def committed (s : State) : State :=
  exitCommand
    { s with
      framesOk := s.framesOk + 1
      samplesOut := s.samplesOut + s.fh.blockSize.setWidth 64
      lastResult := .frame }

/-- Frame commit (R258). -/
def commitFrame (crc : BitVec 16) : M Unit := do
  let fh ← ask State.fh
  let samples ← commitRows fh.blockSize.toNat 0 fh.channels.toNat
  emitFrame (frameRecord fh crc samples)
  update committed

/-- The frame footer (R257) and the commit after it. -/
def frameFooter (crc : BitVec 16) : M Unit := do
  crc16Stop
  skipBits 16
  let computed ← ask State.crc16
  raiseIf (crc != computed) .invalidChecksum 1
  commitFrame crc

/-- PAD: the zero bits before the footer (R256). -/
def execPad (bits : Bits) (s : State) : Host.Outcome State Fault Refusal := outcome (framePadding bits) s

/-- CRC16: the frame footer (R257, R258). -/
def execCrc16 (crc : BitVec 16) (s : State) : Host.Outcome State Fault Refusal := outcome (frameFooter crc) s

end Sys2Proof.Machine
end

