-- ==== Sys2Proof/Machine/FrameHeader.lean ====
section
/-!
DEFINITION. The frame header's elements (R170 to R186), each field checked as soon as it is read (R305).
-/

namespace Sys2Proof.Machine

/-- SYNC with a mismatch (R171). -/
def badSync : M Unit := do
  skipBits 14
  raise .invalidSync 0

/-- SYNC, then RESERVED_A with the bit 1 (R171, R172). -/
def badReservedA : M Unit := do
  skipBits 14
  skipBits 1
  raise .invalidReservedBit 0

/-- SYNC, RESERVED_A and BLOCKING (R171, R172, R173). -/
def syncAndBlocking (blocking : Bool) : M Unit := do
  skipBits 14
  skipBits 1
  skipBits 1
  update fun s => { s with fh.blocking := blocking }
  goto .bsCode

/-- BS_CODE (R174). -/
def blockSizeCode (k : Nat) : M Unit := do
  skipBits 4
  update fun s => { s with fh.bsCode := BitVec.ofNat 4 k }
  raiseIf (k == 0) .invalidBlockSizeCode 0
  goto .srCode

/-- SR_CODE (R175). -/
def sampleRateCode (k : Nat) : M Unit := do
  skipBits 4
  update fun s => { s with fh.srCode := BitVec.ofNat 4 k }
  raiseIf (k == 15) .invalidSampleRateCode 0
  goto .chCode

/-- CH_CODE (R177). -/
def channelCode (k : Nat) : M Unit := do
  skipBits 4
  update fun s => { s with fh.chCode := BitVec.ofNat 4 k }
  match channelLayout k with
  | some (a, n) => do
    update fun s => { s with fh.assign := a, fh.channels := BitVec.ofNat 4 n }
    goto .bpsCode
  | none => raise .invalidChannelAssignment 0

/-- BPS_CODE (R178). -/
def depthCode (k : Nat) : M Unit := do
  skipBits 3
  update fun s => { s with fh.bpsCode := BitVec.ofNat 3 k }
  let si ← ask State.si
  match sampleDepth k si.bps with
  | some d => update fun s => { s with fh.bps := BitVec.ofNat 6 d }
  | none => raise .invalidBpsCode 0

/-- BPS_CODE, then RESERVED_B with the bit 0 (R178, R179). -/
def depthCodeAndReservedB (k : Nat) : M Unit := do
  depthCode k
  skipBits 1
  goto .number

/-- BPS_CODE, then RESERVED_B with the bit 1 (R178, R179). -/
def badReservedB (k : Nat) : M Unit := do
  depthCode k
  skipBits 1
  raise .invalidReservedBit 1

/-- The second half of TRAILING once `FH_BLOCKSIZE` is written: a trailing rate field follows, or the rate is resolved (R181, R182).
The invalid code 15 has been refused by R175 (log entry 5). -/
def resolveRate : M Unit := do
  let code ← ask fun s => s.fh.srCode
  let si ← ask State.si
  if code = 12 then goto .sr8
  else if code = 13 then goto .sr16
  else if code = 14 then goto .sr16x10
  else
    match fixedRate code.toNat si.rate with
    | some r => do
      update fun s => { s with fh.rate := BitVec.ofNat 20 r }
      goto .crc8
    | none => raise .invalidSampleRateCode 0

/-- The first half of TRAILING: a trailing block-size field follows, or the block size is resolved (R181, R176).
The reserved code 0 has been refused by R174 (log entry 5). -/
def resolveBlockSize : M Unit := do
  let code ← ask fun s => s.fh.bsCode
  if code = 6 then goto .bs8
  else if code = 7 then goto .bs16
  else
    match fixedBlockSize code.toNat with
    | some n => do
      update fun s => { s with fh.blockSize := BitVec.ofNat 17 n }
      resolveRate
    | none => raise .invalidBlockSizeCode 0

/-- The end of NUMBER (R180). -/
def numberDone (v : BitVec 36) : M Unit := do
  update fun s => { s with fh.number := v.setWidth 64 }
  resolveBlockSize

/-- NUMBER, first byte of a number of `len` bytes whose free bits are x (R180). -/
def numberLead (len : Nat) (x : Nat) : M Unit := do
  skipBits 8
  let blocking ← ask fun s => s.fh.blocking
  raiseIf (len == 7 && !blocking) .invalidFrameNumber 0
  if len = 1 then numberDone (BitVec.ofNat 36 x)
  else do
    update fun s => { s with seq.numLeft := BitVec.ofNat 3 (len - 1), seq.numAcc := BitVec.ofNat 36 x }
    goto .numCont

/-- NUMBER, an invalid first byte (R180). -/
def badNumberLead : M Unit := do
  skipBits 8
  raise .invalidFrameNumber 0

/-- NUMBER, a following byte (R180). -/
def numberByte (c : BitVec 8) : M Unit := do
  skipBits 8
  raiseIf (c >>> 6 != 2) .invalidFrameNumber 0
  let q ← ask State.seq
  let v : BitVec 36 := (q.numAcc <<< 6) ||| (c.setWidth 6).setWidth 36
  if q.numLeft.toNat ≤ 1 then numberDone v
  else update fun s => { s with seq.numLeft := q.numLeft - 1, seq.numAcc := v }

/-- A trailing block-size field of `bits` bits holding t (R181, R176). -/
def trailingBlockSize (bits t : Nat) : M Unit := do
  skipBits bits
  update fun s => { s with fh.blockSize := BitVec.ofNat 17 (t + 1) }
  resolveRate

/-- A trailing sample-rate field of `bits` bits holding t, in units of `unit` Hz (R181, R182). -/
def trailingRate (bits t unit : Nat) : M Unit := do
  skipBits bits
  update fun s => { s with fh.rate := BitVec.ofNat 20 (t * unit) }
  goto .crc8

/-- BLOCK_SIZE_LIMIT (R184). -/
def blockSizeLimit : M Unit := do
  let fault ← ask fun s =>
    blockSizeFault s.cfg.blockSizeCheck s.fh.blockSize.toNat s.si.minBlock.toNat s.si.maxBlock.toNat
  match fault with
  | some sub => raise .invalidBlockSize sub
  | none => pure ()

/-- HEADER_CRC and BLOCK_SIZE_LIMIT, then on to the first subframe (R183, R184, R200). -/
def headerCrc (crc : BitVec 8) : M Unit := do
  crc8Stop
  skipBits 8
  update fun s => { s with fh.crc8 := crc }
  let computed ← ask State.crc8
  raiseIf (crc != computed) .invalidChecksum 0
  blockSizeLimit
  startChannel 0

/-- FH blocking 0 (R170). -/
def execFhBlocking0 (s : State) : Host.Outcome State Fault Refusal := outcome (syncAndBlocking false) s

/-- FH blocking 1 (R170). -/
def execFhBlocking1 (s : State) : Host.Outcome State Fault Refusal := outcome (syncAndBlocking true) s

/-- FH bad sync (R171). -/
def execFhBadSync (_sync : BitVec 14) (s : State) : Host.Outcome State Fault Refusal := outcome (badSync) s

/-- FH reserved a 1 (R172). -/
def execFhReservedA1 (s : State) : Host.Outcome State Fault Refusal := outcome (badReservedA) s

/-- FH reserved b 1 (R179). -/
def execFhReservedB1 (bps : BitVec 3) (s : State) : Host.Outcome State Fault Refusal := outcome (badReservedB bps.toNat) s

/-- FH bs 0 (R174). Reserved. -/
def execFhBs0 (s : State) : Host.Outcome State Fault Refusal := outcome (blockSizeCode 0) s

/-- FH bs 1 (R176). 192. -/
def execFhBs1 (s : State) : Host.Outcome State Fault Refusal := outcome (blockSizeCode 1) s

/-- FH bs 2 (R176). 576. -/
def execFhBs2 (s : State) : Host.Outcome State Fault Refusal := outcome (blockSizeCode 2) s

/-- FH bs 3 (R176). 1152. -/
def execFhBs3 (s : State) : Host.Outcome State Fault Refusal := outcome (blockSizeCode 3) s

/-- FH bs 4 (R176). 2304. -/
def execFhBs4 (s : State) : Host.Outcome State Fault Refusal := outcome (blockSizeCode 4) s

/-- FH bs 5 (R176). 4608. -/
def execFhBs5 (s : State) : Host.Outcome State Fault Refusal := outcome (blockSizeCode 5) s

/-- FH bs 6 (R176). BS8 follows, N = t + 1. -/
def execFhBs6 (s : State) : Host.Outcome State Fault Refusal := outcome (blockSizeCode 6) s

/-- FH bs 7 (R176). BS16 follows, N = t + 1. -/
def execFhBs7 (s : State) : Host.Outcome State Fault Refusal := outcome (blockSizeCode 7) s

/-- FH bs 8 (R176). 256. -/
def execFhBs8 (s : State) : Host.Outcome State Fault Refusal := outcome (blockSizeCode 8) s

/-- FH bs 9 (R176). 512. -/
def execFhBs9 (s : State) : Host.Outcome State Fault Refusal := outcome (blockSizeCode 9) s

/-- FH bs 10 (R176). 1024. -/
def execFhBs10 (s : State) : Host.Outcome State Fault Refusal := outcome (blockSizeCode 10) s

/-- FH bs 11 (R176). 2048. -/
def execFhBs11 (s : State) : Host.Outcome State Fault Refusal := outcome (blockSizeCode 11) s

/-- FH bs 12 (R176). 4096. -/
def execFhBs12 (s : State) : Host.Outcome State Fault Refusal := outcome (blockSizeCode 12) s

/-- FH bs 13 (R176). 8192. -/
def execFhBs13 (s : State) : Host.Outcome State Fault Refusal := outcome (blockSizeCode 13) s

/-- FH bs 14 (R176). 16384. -/
def execFhBs14 (s : State) : Host.Outcome State Fault Refusal := outcome (blockSizeCode 14) s

/-- FH bs 15 (R176). 32768. -/
def execFhBs15 (s : State) : Host.Outcome State Fault Refusal := outcome (blockSizeCode 15) s

/-- FH sr 0 (R182). StreamInfo rate. -/
def execFhSr0 (s : State) : Host.Outcome State Fault Refusal := outcome (sampleRateCode 0) s

/-- FH sr 1 (R182). 88200. -/
def execFhSr1 (s : State) : Host.Outcome State Fault Refusal := outcome (sampleRateCode 1) s

/-- FH sr 2 (R182). 176400. -/
def execFhSr2 (s : State) : Host.Outcome State Fault Refusal := outcome (sampleRateCode 2) s

/-- FH sr 3 (R182). 192000. -/
def execFhSr3 (s : State) : Host.Outcome State Fault Refusal := outcome (sampleRateCode 3) s

/-- FH sr 4 (R182). 8000. -/
def execFhSr4 (s : State) : Host.Outcome State Fault Refusal := outcome (sampleRateCode 4) s

/-- FH sr 5 (R182). 16000. -/
def execFhSr5 (s : State) : Host.Outcome State Fault Refusal := outcome (sampleRateCode 5) s

/-- FH sr 6 (R182). 22050. -/
def execFhSr6 (s : State) : Host.Outcome State Fault Refusal := outcome (sampleRateCode 6) s

/-- FH sr 7 (R182). 24000. -/
def execFhSr7 (s : State) : Host.Outcome State Fault Refusal := outcome (sampleRateCode 7) s

/-- FH sr 8 (R182). 32000. -/
def execFhSr8 (s : State) : Host.Outcome State Fault Refusal := outcome (sampleRateCode 8) s

/-- FH sr 9 (R182). 44100. -/
def execFhSr9 (s : State) : Host.Outcome State Fault Refusal := outcome (sampleRateCode 9) s

/-- FH sr 10 (R182). 48000. -/
def execFhSr10 (s : State) : Host.Outcome State Fault Refusal := outcome (sampleRateCode 10) s

/-- FH sr 11 (R182). 96000. -/
def execFhSr11 (s : State) : Host.Outcome State Fault Refusal := outcome (sampleRateCode 11) s

/-- FH sr 12 (R182). SR8 follows, t x 1000 Hz. -/
def execFhSr12 (s : State) : Host.Outcome State Fault Refusal := outcome (sampleRateCode 12) s

/-- FH sr 13 (R182). SR16 follows, t Hz. -/
def execFhSr13 (s : State) : Host.Outcome State Fault Refusal := outcome (sampleRateCode 13) s

/-- FH sr 14 (R182). SR16X10 follows, t x 10 Hz. -/
def execFhSr14 (s : State) : Host.Outcome State Fault Refusal := outcome (sampleRateCode 14) s

/-- FH sr 15 (R175). Invalid. -/
def execFhSr15 (s : State) : Host.Outcome State Fault Refusal := outcome (sampleRateCode 15) s

/-- FH ch 0 (R251). Independent, 1 channel(s). -/
def execFhCh0 (s : State) : Host.Outcome State Fault Refusal := outcome (channelCode 0) s

/-- FH ch 1 (R251). Independent, 2 channel(s). -/
def execFhCh1 (s : State) : Host.Outcome State Fault Refusal := outcome (channelCode 1) s

/-- FH ch 2 (R251). Independent, 3 channel(s). -/
def execFhCh2 (s : State) : Host.Outcome State Fault Refusal := outcome (channelCode 2) s

/-- FH ch 3 (R251). Independent, 4 channel(s). -/
def execFhCh3 (s : State) : Host.Outcome State Fault Refusal := outcome (channelCode 3) s

/-- FH ch 4 (R251). Independent, 5 channel(s). -/
def execFhCh4 (s : State) : Host.Outcome State Fault Refusal := outcome (channelCode 4) s

/-- FH ch 5 (R251). Independent, 6 channel(s). -/
def execFhCh5 (s : State) : Host.Outcome State Fault Refusal := outcome (channelCode 5) s

/-- FH ch 6 (R251). Independent, 7 channel(s). -/
def execFhCh6 (s : State) : Host.Outcome State Fault Refusal := outcome (channelCode 6) s

/-- FH ch 7 (R251). Independent, 8 channel(s). -/
def execFhCh7 (s : State) : Host.Outcome State Fault Refusal := outcome (channelCode 7) s

/-- FH ch 8 (R252). LeftSide, 2 channels. -/
def execFhCh8 (s : State) : Host.Outcome State Fault Refusal := outcome (channelCode 8) s

/-- FH ch 9 (R253). RightSide, 2 channels. -/
def execFhCh9 (s : State) : Host.Outcome State Fault Refusal := outcome (channelCode 9) s

/-- FH ch 10 (R254). MiddleSide, 2 channels. -/
def execFhCh10 (s : State) : Host.Outcome State Fault Refusal := outcome (channelCode 10) s

/-- FH ch 11 (R177). Invalid. -/
def execFhCh11 (s : State) : Host.Outcome State Fault Refusal := outcome (channelCode 11) s

/-- FH ch 12 (R177). Invalid. -/
def execFhCh12 (s : State) : Host.Outcome State Fault Refusal := outcome (channelCode 12) s

/-- FH ch 13 (R177). Invalid. -/
def execFhCh13 (s : State) : Host.Outcome State Fault Refusal := outcome (channelCode 13) s

/-- FH ch 14 (R177). Invalid. -/
def execFhCh14 (s : State) : Host.Outcome State Fault Refusal := outcome (channelCode 14) s

/-- FH ch 15 (R177). Invalid. -/
def execFhCh15 (s : State) : Host.Outcome State Fault Refusal := outcome (channelCode 15) s

/-- FH bps 0 (R178). StreamInfo depth. -/
def execFhBps0 (s : State) : Host.Outcome State Fault Refusal := outcome (depthCodeAndReservedB 0) s

/-- FH bps 1 (R178). 8. -/
def execFhBps1 (s : State) : Host.Outcome State Fault Refusal := outcome (depthCodeAndReservedB 1) s

/-- FH bps 2 (R178). 12. -/
def execFhBps2 (s : State) : Host.Outcome State Fault Refusal := outcome (depthCodeAndReservedB 2) s

/-- FH bps 3 (R178). Reserved. -/
def execFhBps3 (s : State) : Host.Outcome State Fault Refusal := outcome (depthCodeAndReservedB 3) s

/-- FH bps 4 (R178). 16. -/
def execFhBps4 (s : State) : Host.Outcome State Fault Refusal := outcome (depthCodeAndReservedB 4) s

/-- FH bps 5 (R178). 20. -/
def execFhBps5 (s : State) : Host.Outcome State Fault Refusal := outcome (depthCodeAndReservedB 5) s

/-- FH bps 6 (R178). 24. -/
def execFhBps6 (s : State) : Host.Outcome State Fault Refusal := outcome (depthCodeAndReservedB 6) s

/-- FH bps 7 (R178). 32. -/
def execFhBps7 (s : State) : Host.Outcome State Fault Refusal := outcome (depthCodeAndReservedB 7) s

/-- NUM lead 0x00 0x80 (R180). -/
def execNumLead00 (x : BitVec 7) (s : State) : Host.Outcome State Fault Refusal := outcome (numberLead 1 x.toNat) s

/-- NUM lead 0x80 0xC0 (R180). -/
def execNumLead80 (_x : BitVec 6) (s : State) : Host.Outcome State Fault Refusal := outcome (badNumberLead) s

/-- NUM lead 0xC0 0xE0 (R180). -/
def execNumLeadC0 (x : BitVec 5) (s : State) : Host.Outcome State Fault Refusal := outcome (numberLead 2 x.toNat) s

/-- NUM lead 0xE0 0xF0 (R180). -/
def execNumLeadE0 (x : BitVec 4) (s : State) : Host.Outcome State Fault Refusal := outcome (numberLead 3 x.toNat) s

/-- NUM lead 0xF0 0xF8 (R180). -/
def execNumLeadF0 (x : BitVec 3) (s : State) : Host.Outcome State Fault Refusal := outcome (numberLead 4 x.toNat) s

/-- NUM lead 0xF8 0xFC (R180). -/
def execNumLeadF8 (x : BitVec 2) (s : State) : Host.Outcome State Fault Refusal := outcome (numberLead 5 x.toNat) s

/-- NUM lead 0xFC 0xFE (R180). -/
def execNumLeadFC (x : BitVec 1) (s : State) : Host.Outcome State Fault Refusal := outcome (numberLead 6 x.toNat) s

/-- NUM lead 0xFE 0xFF (R180). -/
def execNumLeadFE (s : State) : Host.Outcome State Fault Refusal := outcome (numberLead 7 0) s

/-- NUM lead 0xFF 0xFF (R180). -/
def execNumLeadFF (s : State) : Host.Outcome State Fault Refusal := outcome (badNumberLead) s

/-- NUM continuation (R180). -/
def execNumContinuation (c : BitVec 8) (s : State) : Host.Outcome State Fault Refusal := outcome (numberByte c) s

/-- BS8 (R181). -/
def execBs8 (t : BitVec 8) (s : State) : Host.Outcome State Fault Refusal := outcome (trailingBlockSize 8 t.toNat) s

/-- BS16 (R181). -/
def execBs16 (t : BitVec 16) (s : State) : Host.Outcome State Fault Refusal := outcome (trailingBlockSize 16 t.toNat) s

/-- SR8 (R181). -/
def execSr8 (t : BitVec 8) (s : State) : Host.Outcome State Fault Refusal := outcome (trailingRate 8 t.toNat 1000) s

/-- SR16 (R181). -/
def execSr16 (t : BitVec 16) (s : State) : Host.Outcome State Fault Refusal := outcome (trailingRate 16 t.toNat 1) s

/-- SR16X10 (R181). -/
def execSr16x10 (t : BitVec 16) (s : State) : Host.Outcome State Fault Refusal := outcome (trailingRate 16 t.toNat 10) s

/-- CRC8 (R183). -/
def execCrc8 (crc : BitVec 8) (s : State) : Host.Outcome State Fault Refusal := outcome (headerCrc crc) s

end Sys2Proof.Machine
end

