-- ==== Sys2Proof/Machine/Metadata.lean ====
section
/-!
DEFINITION. The metadata parser's elements (R140 to R157): the stream marker and one metadata block of each type.
-/

namespace Sys2Proof.Machine

/-- MARKER (R141); `MD_COUNT` is cleared after it (R140). -/
def readMarker (m : BitVec 32) : M Unit := do
  skipBits 32
  raiseIf (m.toNat != streamMarker) .metadataFormat 2
  update fun s => { s with md.count := 0 }
  goto .metadata

/-- BLOCK_HEADER (R142). -/
def blockHeader (last : Bool) (type : BitVec 7) (len : BitVec 24) : M Unit := do
  skipBits 1
  update fun s => { s with md.last := last }
  skipBits 7
  update fun s => { s with md.type := type }
  skipBits 24
  update fun s => { s with md.len := len }

/-- FIRST_BLOCK_CHECK (R143). -/
def firstBlockCheck : M Unit := do
  let md ← ask State.md
  raiseIf (md.count == 0 && md.type != 0) .metadataFormat 0
  raiseIf (md.count != 0 && md.type == 0) .metadataFormat 3

/-- The end of OPEN (R156, R274). -/
def opened (s : State) : State := { s with state := .ready, lastResult := .opened, seq.pos := .host }

/-- `MD_COUNT + 1` (R140). Past the register's top it is a free value other than 0: the spec states none (R37), and a block
that follows is no first one (R27, R147; log entry 4). -/
def countBlock (s : State) : BitVec 32 :=
  if s.md.count + 1 = 0 then BitVec.ofNat 32 ((Config.countPastTop s.metadataOut.length).val + 1) else s.md.count + 1

/-- After a block's body: counts the block, and ends OPEN after the last one (R140, R156). -/
def endBlock : M Unit := do
  update fun s => { s with md.count := countBlock s }
  let last ← ask fun s => s.md.last
  if last then update opened else goto .metadata

/-- RAW_BODY (R155). -/
def rawBody (len : Nat) : M Unit := do
  let body ← readBytes len
  let md ← ask State.md
  emitMetadata { last := md.last, type := md.type, length := md.len, body := .raw body }

/-- A whole block that is passed through raw (R142, R143, R148 to R155). -/
def rawBlock (last : Bool) (type : BitVec 7) (len : BitVec 24) : M Unit := do
  blockHeader last type len
  firstBlockCheck
  rawBody len.toNat
  endBlock

/-- The fields of the StreamInfo body, each register written as its field is read (R83, R145). -/
def streamInfoFields : M Unit := do
  let v ← readU 16
  update fun s => { s with si.minBlock := BitVec.ofNat 16 v }
  let v ← readU 16
  update fun s => { s with si.maxBlock := BitVec.ofNat 16 v }
  let v ← readU 24
  update fun s => { s with si.minFrame := BitVec.ofNat 24 v }
  let v ← readU 24
  update fun s => { s with si.maxFrame := BitVec.ofNat 24 v }
  let v ← readU 20
  update fun s => { s with si.rate := BitVec.ofNat 20 v }
  let v ← readU 3
  update fun s => { s with si.channels := BitVec.ofNat 4 (v + 1) }
  let v ← readU 5
  update fun s => { s with si.bps := BitVec.ofNat 6 (v + 1) }
  let v ← readU 36
  update fun s => { s with si.total := BitVec.ofNat 36 v }
  let hi ← readU 64
  let lo ← readU 64
  update fun s => { s with si.md5 := BitVec.ofNat 128 (hi * 2 ^ 64 + lo) }
  update fun s => { s with si.valid := true }

/-- The StreamInfo record of the registers (R280). -/
def streamInfoRecord (s : State) : MetadataRecord where
  last := s.md.last
  type := s.md.type
  length := s.md.len
  body :=
    .streamInfo s.si.minBlock s.si.maxBlock s.si.minFrame s.si.maxFrame s.si.rate s.si.channels s.si.bps s.si.total s.si.md5

/-- A whole StreamInfo block (R142, R143, R145, R146). -/
def streamInfoBlock (last : Bool) (len : BitVec 24) : M Unit := do
  blockHeader last 0 len
  firstBlockCheck
  raiseIf (len.toNat != 34) .metadataFormat 1
  streamInfoFields
  let r ← ask streamInfoRecord
  emitMetadata r
  endBlock

/-- MARKER (R141). -/
def execMarker (m : BitVec 32) (s : State) : Host.Outcome State Fault Refusal := outcome (readMarker m) s

/-- MD STREAMINFO (R145). -/
def execMdStreaminfo (last : Bool) (len : BitVec 24) (s : State) : Host.Outcome State Fault Refusal := outcome (streamInfoBlock last len) s

/-- MD PADDING (R148). -/
def execMdPadding (last : Bool) (len : BitVec 24) (s : State) : Host.Outcome State Fault Refusal := outcome (rawBlock last 1 len) s

/-- MD APPLICATION (R149). -/
def execMdApplication (last : Bool) (len : BitVec 24) (s : State) : Host.Outcome State Fault Refusal := outcome (rawBlock last 2 len) s

/-- MD SEEKTABLE (R150). -/
def execMdSeektable (last : Bool) (len : BitVec 24) (s : State) : Host.Outcome State Fault Refusal := outcome (rawBlock last 3 len) s

/-- MD VORBIS COMMENT (R151). -/
def execMdVorbisComment (last : Bool) (len : BitVec 24) (s : State) : Host.Outcome State Fault Refusal := outcome (rawBlock last 4 len) s

/-- MD CUESHEET (R152). -/
def execMdCuesheet (last : Bool) (len : BitVec 24) (s : State) : Host.Outcome State Fault Refusal := outcome (rawBlock last 5 len) s

/-- MD PICTURE (R153). -/
def execMdPicture (last : Bool) (len : BitVec 24) (s : State) : Host.Outcome State Fault Refusal := outcome (rawBlock last 6 len) s

/-- MD UNKNOWN types 7-7 (R154). -/
def execMdUnknownTypes7To7 (last : Bool) (len : BitVec 24) (s : State) : Host.Outcome State Fault Refusal := outcome (rawBlock last 7 len) s

/-- MD UNKNOWN types 8-15 (R154). -/
def execMdUnknownTypes8To15 (last : Bool) (t : BitVec 3) (len : BitVec 24) (s : State) : Host.Outcome State Fault Refusal := outcome (rawBlock last (BitVec.ofNat 7 (8 + t.toNat)) len) s

/-- MD UNKNOWN types 16-31 (R154). -/
def execMdUnknownTypes16To31 (last : Bool) (t : BitVec 4) (len : BitVec 24) (s : State) : Host.Outcome State Fault Refusal := outcome (rawBlock last (BitVec.ofNat 7 (16 + t.toNat)) len) s

/-- MD UNKNOWN types 32-63 (R154). -/
def execMdUnknownTypes32To63 (last : Bool) (t : BitVec 5) (len : BitVec 24) (s : State) : Host.Outcome State Fault Refusal := outcome (rawBlock last (BitVec.ofNat 7 (32 + t.toNat)) len) s

/-- MD UNKNOWN types 64-127 (R154). -/
def execMdUnknownTypes64To127 (last : Bool) (t : BitVec 6) (len : BitVec 24) (s : State) : Host.Outcome State Fault Refusal := outcome (rawBlock last (BitVec.ofNat 7 (64 + t.toNat)) len) s

end Sys2Proof.Machine
end

