-- ==== Sys2Proof/Machine/Subframe.lean ====
section
/-!
DEFINITION. The subframe decoder's elements (R200 to R218). A FIXED or LPC subframe is this element, then the residual's
elements (R97 to R100); when the last residual value is in `SUB`, `reconstructSubframe` applies the predictor (R207, R215).
-/

namespace Sys2Proof.Machine

/-- The kind and order a subframe type selects (R202); none for a reserved type, and for one past the configured
MAX_FIXED_ORDER or MAX_LPC_ORDER (R7, log entry 7). -/
def subframeKindOf (cfg : Config) (type : Nat) : Option (SubframeKind × Nat) :=
  if type = 0 then some (.constant, 0)
  else if type = 1 then some (.verbatim, 0)
  else if 8 ≤ type ∧ type ≤ 8 + cfg.maxFixedOrder.val then some (.fixed, type - 8)
  else if 32 ≤ type ∧ type ≤ 31 + cfg.maxLpcOrder.val then some (.lpc, type - 31)
  else none

/-- The subframe type, checked as soon as it is read (R202). -/
def subframeType (type : Nat) : M Unit := do
  skipBits 6
  update fun s => { s with sf.type := BitVec.ofNat 6 type }
  let cfg ← ask State.cfg
  match subframeKindOf cfg type with
  | some (kind, order) => update fun s => { s with sf.kind := kind, sf.order := BitVec.ofNat 6 order }
  | none => raise .invalidSubframeType 0

/-- The subframe's reserved bit 1 (R201). -/
def badSubframeReserved : M Unit := do
  skipBits 1
  raise .invalidReservedBit 2

/-- A reserved subframe type, refused before the wasted-bits flag is read (R201, R202). -/
def badSubframeType (type : Nat) : M Unit := do
  skipBits 1
  subframeType type

/-- The wasted-bits flag, already read, and the count after it (R203). -/
def wastedCount (flag : Bool) : M Nat :=
  if flag then do
    let full ← ask fun s => s.sf.fullW
    let k ← readUnary ((full.toNat : Int) - 2) .widthOutOfRange 0
    pure (k + 1)
  else pure 0

/-- The subframe header and its width check (R201 to R204). -/
def subframeHeader (type : Nat) (flag : Bool) : M Unit := do
  skipBits 1
  subframeType type
  skipBits 1
  let wasted ← wastedCount flag
  update fun s => { s with sf.wasted := BitVec.ofNat 6 wasted }
  update fun s => { s with sf.w := s.sf.fullW - s.sf.wasted }
  let w ← ask fun s => s.sf.w.toNat
  checkWidth w 0

/-- WASTED_SHIFT (R217). -/
def wastedShift (c n k : Nat) : M Unit :=
  forRange 0 n fun i => do
    let v ← readSample c i
    writeSample c i (v * 2 ^ k)

/-- After a subframe's body: the wasted-bits shift, then the next channel (R200, R217). -/
def finishSubframe : M Unit := do
  let sf ← ask State.sf
  let fh ← ask State.fh
  wastedShift sf.ch.toNat fh.blockSize.toNat sf.wasted.toNat
  startChannel (sf.ch.toNat + 1)

/-- CONSTANT (R205). -/
def constantSubframe (flag : Bool) : M Unit := do
  subframeHeader 0 flag
  let sf ← ask State.sf
  let fh ← ask State.fh
  let v ← readS sf.w.toNat
  forRange 0 fh.blockSize.toNat fun i => writeSample sf.ch.toNat i v
  finishSubframe

/-- VERBATIM (R206). -/
def verbatimSubframe (flag : Bool) : M Unit := do
  subframeHeader 1 flag
  let sf ← ask State.sf
  let fh ← ask State.fh
  readSamples sf.ch.toNat (readS sf.w.toNat) 0 fh.blockSize.toNat
  finishSubframe

/-- The warmup samples of a FIXED or LPC subframe (R207, R213). -/
def warmup (order : Nat) : M Unit := do
  let sf ← ask State.sf
  readSamples sf.ch.toNat (readS sf.w.toNat) 0 order

/-- FIXED of an order, up to its residual (R207). -/
def fixedSubframe (order : Nat) (flag : Bool) : M Unit := do
  subframeHeader (8 + order) flag
  warmup order
  goto .residual

/-- The LPC header after the warmup samples (R213). -/
def lpcHeader : M Unit := do
  let pc ← readU 4
  raiseIf (pc == 15) .invalidLpcPrecision 0
  update fun s => { s with lpc.prec := BitVec.ofNat 5 (pc + 1) }
  checkWidth (pc + 1) 3
  let sh ← readS 5
  raiseIf (decide (sh < 0)) .invalidLpcShift 0
  update fun s => { s with lpc.shift := BitVec.ofInt 5 sh }

/-- Coefficients j, j + 1, … of `prec` bits each (R214). -/
def lpcCoefs (prec : Nat) : Nat → Nat → M Unit
  | _, 0 => pure ()
  | j, n + 1 => do
    let q ← readS prec
    update fun s => { s with lpc.qlp := s.lpc.qlp.setIfInBounds j (BitVec.ofInt 15 q) }
    lpcCoefs prec (j + 1) n

/-- LPC of an order, up to its residual (R213, R214). -/
def lpcSubframe (order : Nat) (flag : Bool) : M Unit := do
  subframeHeader (31 + order) flag
  warmup order
  lpcHeader
  let prec ← ask fun s => s.lpc.prec.toNat
  lpcCoefs prec 0 order
  goto .residual

/-- RANGE_CHECK_SAMPLE(s) for subframe width w (R216). -/
def rangeCheckSample (w : Nat) (v : Int) : M Unit := do
  let check ← ask fun s => s.cfg.rangeCheck
  raiseIf (check && !inRange w v) .valueOutOfRange 0

/-- Replaces each residual of row c from index `order` on by its sample (R207, R215). -/
def predictRow (c : Nat) (coefs : List Int) (shift w order n : Nat) : M Unit :=
  forRange order (n - order) fun i => do
    let acc ← historySum c coefs i
    let e ← readSample c i
    let v := asr acc shift + e
    rangeCheckSample w v
    writeSample c i v

/-- The coefficients and the shift the subframe's predictor uses (R208 to R212, R215). -/
def predictorOf (sf : Subframe) (lpc : Lpc) : List Int × Nat :=
  match sf.kind with
  | .fixed => (fixedCoefs sf.order.toNat, 0)
  | .lpc => ((lpc.qlp.toList.take sf.order.toNat).map BitVec.toInt, lpc.shift.toNat)
  | .constant | .verbatim => ([], 0)

/-- After the last residual value: the prediction, then the end of the subframe (R207, R215, R217). -/
def reconstructSubframe : M Unit := do
  let sf ← ask State.sf
  let fh ← ask State.fh
  let lpc ← ask State.lpc
  let (coefs, shift) := predictorOf sf lpc
  predictRow sf.ch.toNat coefs shift sf.w.toNat sf.order.toNat fh.blockSize.toNat
  finishSubframe

/-- SF reserved 1 (R201). -/
def execSfReserved1 (s : State) : Host.Outcome State Fault Refusal := outcome (badSubframeReserved) s

/-- SF CONSTANT (R205). -/
def execSfConstant (wasted : Bool) (s : State) : Host.Outcome State Fault Refusal := outcome (constantSubframe wasted) s

/-- SF VERBATIM (R206). -/
def execSfVerbatim (wasted : Bool) (s : State) : Host.Outcome State Fault Refusal := outcome (verbatimSubframe wasted) s

/-- SF RESERVED types 2-3 (R202). -/
def execSfReservedTypes2To3 (x : BitVec 1) (s : State) : Host.Outcome State Fault Refusal := outcome (badSubframeType (2 + x.toNat)) s

/-- SF RESERVED types 4-7 (R202). -/
def execSfReservedTypes4To7 (x : BitVec 2) (s : State) : Host.Outcome State Fault Refusal := outcome (badSubframeType (4 + x.toNat)) s

/-- SF FIXED0 (R208). -/
def execSfFixed0 (wasted : Bool) (s : State) : Host.Outcome State Fault Refusal := outcome (fixedSubframe 0 wasted) s

/-- SF FIXED1 (R209). -/
def execSfFixed1 (wasted : Bool) (s : State) : Host.Outcome State Fault Refusal := outcome (fixedSubframe 1 wasted) s

/-- SF FIXED2 (R210). -/
def execSfFixed2 (wasted : Bool) (s : State) : Host.Outcome State Fault Refusal := outcome (fixedSubframe 2 wasted) s

/-- SF FIXED3 (R211). -/
def execSfFixed3 (wasted : Bool) (s : State) : Host.Outcome State Fault Refusal := outcome (fixedSubframe 3 wasted) s

/-- SF FIXED4 (R212). -/
def execSfFixed4 (wasted : Bool) (s : State) : Host.Outcome State Fault Refusal := outcome (fixedSubframe 4 wasted) s

/-- SF RESERVED type 13 (R202). -/
def execSfReservedType13 (s : State) : Host.Outcome State Fault Refusal := outcome (badSubframeType 13) s

/-- SF RESERVED types 14-15 (R202). -/
def execSfReservedTypes14To15 (x : BitVec 1) (s : State) : Host.Outcome State Fault Refusal := outcome (badSubframeType (14 + x.toNat)) s

/-- SF RESERVED types 16-31 (R202). -/
def execSfReservedTypes16To31 (x : BitVec 4) (s : State) : Host.Outcome State Fault Refusal := outcome (badSubframeType (16 + x.toNat)) s

/-- SF LPC1 (R215). -/
def execSfLpc1 (wasted : Bool) (s : State) : Host.Outcome State Fault Refusal := outcome (lpcSubframe 1 wasted) s

/-- SF LPC2 (R215). -/
def execSfLpc2 (wasted : Bool) (s : State) : Host.Outcome State Fault Refusal := outcome (lpcSubframe 2 wasted) s

/-- SF LPC3 (R215). -/
def execSfLpc3 (wasted : Bool) (s : State) : Host.Outcome State Fault Refusal := outcome (lpcSubframe 3 wasted) s

/-- SF LPC4 (R215). -/
def execSfLpc4 (wasted : Bool) (s : State) : Host.Outcome State Fault Refusal := outcome (lpcSubframe 4 wasted) s

/-- SF LPC5 (R215). -/
def execSfLpc5 (wasted : Bool) (s : State) : Host.Outcome State Fault Refusal := outcome (lpcSubframe 5 wasted) s

/-- SF LPC6 (R215). -/
def execSfLpc6 (wasted : Bool) (s : State) : Host.Outcome State Fault Refusal := outcome (lpcSubframe 6 wasted) s

/-- SF LPC7 (R215). -/
def execSfLpc7 (wasted : Bool) (s : State) : Host.Outcome State Fault Refusal := outcome (lpcSubframe 7 wasted) s

/-- SF LPC8 (R215). -/
def execSfLpc8 (wasted : Bool) (s : State) : Host.Outcome State Fault Refusal := outcome (lpcSubframe 8 wasted) s

/-- SF LPC9 (R215). -/
def execSfLpc9 (wasted : Bool) (s : State) : Host.Outcome State Fault Refusal := outcome (lpcSubframe 9 wasted) s

/-- SF LPC10 (R215). -/
def execSfLpc10 (wasted : Bool) (s : State) : Host.Outcome State Fault Refusal := outcome (lpcSubframe 10 wasted) s

/-- SF LPC11 (R215). -/
def execSfLpc11 (wasted : Bool) (s : State) : Host.Outcome State Fault Refusal := outcome (lpcSubframe 11 wasted) s

/-- SF LPC12 (R215). -/
def execSfLpc12 (wasted : Bool) (s : State) : Host.Outcome State Fault Refusal := outcome (lpcSubframe 12 wasted) s

/-- SF LPC13 (R215). -/
def execSfLpc13 (wasted : Bool) (s : State) : Host.Outcome State Fault Refusal := outcome (lpcSubframe 13 wasted) s

/-- SF LPC14 (R215). -/
def execSfLpc14 (wasted : Bool) (s : State) : Host.Outcome State Fault Refusal := outcome (lpcSubframe 14 wasted) s

/-- SF LPC15 (R215). -/
def execSfLpc15 (wasted : Bool) (s : State) : Host.Outcome State Fault Refusal := outcome (lpcSubframe 15 wasted) s

/-- SF LPC16 (R215). -/
def execSfLpc16 (wasted : Bool) (s : State) : Host.Outcome State Fault Refusal := outcome (lpcSubframe 16 wasted) s

/-- SF LPC17 (R215). -/
def execSfLpc17 (wasted : Bool) (s : State) : Host.Outcome State Fault Refusal := outcome (lpcSubframe 17 wasted) s

/-- SF LPC18 (R215). -/
def execSfLpc18 (wasted : Bool) (s : State) : Host.Outcome State Fault Refusal := outcome (lpcSubframe 18 wasted) s

/-- SF LPC19 (R215). -/
def execSfLpc19 (wasted : Bool) (s : State) : Host.Outcome State Fault Refusal := outcome (lpcSubframe 19 wasted) s

/-- SF LPC20 (R215). -/
def execSfLpc20 (wasted : Bool) (s : State) : Host.Outcome State Fault Refusal := outcome (lpcSubframe 20 wasted) s

/-- SF LPC21 (R215). -/
def execSfLpc21 (wasted : Bool) (s : State) : Host.Outcome State Fault Refusal := outcome (lpcSubframe 21 wasted) s

/-- SF LPC22 (R215). -/
def execSfLpc22 (wasted : Bool) (s : State) : Host.Outcome State Fault Refusal := outcome (lpcSubframe 22 wasted) s

/-- SF LPC23 (R215). -/
def execSfLpc23 (wasted : Bool) (s : State) : Host.Outcome State Fault Refusal := outcome (lpcSubframe 23 wasted) s

/-- SF LPC24 (R215). -/
def execSfLpc24 (wasted : Bool) (s : State) : Host.Outcome State Fault Refusal := outcome (lpcSubframe 24 wasted) s

/-- SF LPC25 (R215). -/
def execSfLpc25 (wasted : Bool) (s : State) : Host.Outcome State Fault Refusal := outcome (lpcSubframe 25 wasted) s

/-- SF LPC26 (R215). -/
def execSfLpc26 (wasted : Bool) (s : State) : Host.Outcome State Fault Refusal := outcome (lpcSubframe 26 wasted) s

/-- SF LPC27 (R215). -/
def execSfLpc27 (wasted : Bool) (s : State) : Host.Outcome State Fault Refusal := outcome (lpcSubframe 27 wasted) s

/-- SF LPC28 (R215). -/
def execSfLpc28 (wasted : Bool) (s : State) : Host.Outcome State Fault Refusal := outcome (lpcSubframe 28 wasted) s

/-- SF LPC29 (R215). -/
def execSfLpc29 (wasted : Bool) (s : State) : Host.Outcome State Fault Refusal := outcome (lpcSubframe 29 wasted) s

/-- SF LPC30 (R215). -/
def execSfLpc30 (wasted : Bool) (s : State) : Host.Outcome State Fault Refusal := outcome (lpcSubframe 30 wasted) s

/-- SF LPC31 (R215). -/
def execSfLpc31 (wasted : Bool) (s : State) : Host.Outcome State Fault Refusal := outcome (lpcSubframe 31 wasted) s

/-- SF LPC32 (R215). -/
def execSfLpc32 (wasted : Bool) (s : State) : Host.Outcome State Fault Refusal := outcome (lpcSubframe 32 wasted) s

end Sys2Proof.Machine
end

