-- ==== Sys2Proof/Machine/Residual.lean ====
section
/-!
DEFINITION. The Rice residual decoder's elements (R230 to R240).
-/

namespace Sys2Proof.Machine

/-- The position of a Rice parameter of the method's width (R98, R231). -/
def partitionPosition (method : Nat) : Position := if method = 0 then .part4 else .part5

/-- PARTITION_CHECK(N, p) (R232). -/
def partitionCheck : M Unit := do
  let s ← ask id
  let n := s.fh.blockSize.toNat
  raiseIf (n % 2 ^ s.res.porder.toNat != 0) .invalidPartition 0
  raiseIf (decide (n >>> s.res.porder.toNat < s.sf.order.toNat)) .invalidPartition 1

/-- Coding method 0 or 1 and the partition order, then partition 0 (R230, R231, R232). -/
def residualHeader (method : Nat) (porder : BitVec 4) : M Unit := do
  skipBits 2
  update fun s => { s with res.method := BitVec.ofNat 2 method, res.pw := BitVec.ofNat 3 (4 + method) }
  skipBits 4
  update fun s => { s with res.porder := porder }
  partitionCheck
  update fun s => { s with res.part := 0 }
  goto (partitionPosition method)

/-- An invalid coding method (R231). -/
def badCodingMethod (method : Nat) : M Unit := do
  skipBits 2
  update fun s => { s with res.method := BitVec.ofNat 2 method }
  raise .invalidCodingMethod 0

/-- Reads the current partition's values into `SUB`, each made by `read` (R230, R233). -/
def partitionValues (read : M Int) : M Unit := do
  let s ← ask id
  let n := s.fh.blockSize.toNat
  let p := s.sf.order.toNat
  let o := s.res.porder.toNat
  let j := s.res.part.toNat
  readSamples s.sf.ch.toNat read (partStart n p o j) (partSize n p o j)

/-- After a partition: the next one, or the end of the residual (R230). -/
def nextPartition : M Unit := do
  let res ← ask State.res
  if res.part.toNat + 1 < 2 ^ res.porder.toNat then do
    update fun s => { s with res.part := BitVec.ofNat 16 (res.part.toNat + 1) }
    goto (partitionPosition res.method.toNat)
  else reconstructSubframe

/-- A partition with Rice parameter k, read in `width` bits (R234, R236). -/
def ricePartition (width k : Nat) : M Unit := do
  skipBits width
  update fun s => { s with res.param := BitVec.ofNat 5 k }
  if k ≥ 1 then checkWidth k 2 else pure ()
  partitionValues (readRice k)
  nextPartition

/-- The escape value, all ones in `width` bits (R234, R235). -/
def escapePartition (width : Nat) : M Unit := do
  skipBits width
  update fun s => { s with res.param := BitVec.ofNat 5 (2 ^ width - 1) }
  goto .esc

/-- The raw width of an escaped partition and its values (R235). -/
def escapedValues (width : Nat) : M Unit := do
  skipBits 5
  update fun s => { s with res.escBits := BitVec.ofNat 5 width }
  if width ≥ 1 then checkWidth width 1 else pure ()
  partitionValues (readS width)
  nextPartition

/-- RES method 0 (R231). -/
def execResMethod0 (porder : BitVec 4) (s : State) : Host.Outcome State Fault Refusal := outcome (residualHeader 0 porder) s

/-- RES method 1 (R231). -/
def execResMethod1 (porder : BitVec 4) (s : State) : Host.Outcome State Fault Refusal := outcome (residualHeader 1 porder) s

/-- RES method 2-3 (R231). -/
def execResMethod2To3 (x : BitVec 1) (s : State) : Host.Outcome State Fault Refusal := outcome (badCodingMethod (2 + x.toNat)) s

/-- PART4 k (R236). -/
def execPart4K (k : BitVec 4) (s : State) : Host.Outcome State Fault Refusal := outcome (ricePartition 4 k.toNat) s

/-- PART4 escape (R235). -/
def execPart4Escape (s : State) : Host.Outcome State Fault Refusal := outcome (escapePartition 4) s

/-- PART5 k (R236). -/
def execPart5K (k : BitVec 5) (s : State) : Host.Outcome State Fault Refusal := outcome (ricePartition 5 k.toNat) s

/-- PART5 escape (R235). -/
def execPart5Escape (s : State) : Host.Outcome State Fault Refusal := outcome (escapePartition 5) s

/-- ESC (R235). -/
def execEsc (width : BitVec 5) (s : State) : Host.Outcome State Fault Refusal := outcome (escapedValues width.toNat) s

end Sys2Proof.Machine
end

