-- ==== Sys2Proof/Machine/Sequencer.lean ====
section
/-!
DEFINITION. The command sequencer between the values of `STATE` (R21, R271): the element at the read cursor, its effect,
and the run of elements that makes a command one atomic transition.
-/

namespace Sys2Proof.Machine

/-- The bits the byte source's next answers hold, as far as bytes come without a break. -/
def answerBits : List SrcAnswer → Bits
  | .byte b :: rest => byteToBits b ++ answerBits rest
  | .ioErr _ :: _ => []
  | [] => []

/-- The next 32 bits at the read cursor (R23, R63), zeros where the source has no more.
Nothing is consumed: an element's meaning reads its fields itself and meets the end of data where the spec has it. -/
def upcoming (s : State) : Bits :=
  (natToBits s.bitsLeft s.buf.toNat ++ answerBits (s.src.take 4) ++ natToBits 32 0).take 32

/-- The element at the read cursor. -/
def decodeHere (s : State) : Except DecodeError (Instr × Bits) := decode s.seq.pos s.bitsLeft (upcoming s)

/-- The effect of an element inside a command. A command is no element: none starts while another runs (R335). -/
def runElement (i : Instr) (s : State) : Host.Outcome State Fault Refusal :=
  match i with
  | .cmdReset | .cmdOpen | .cmdPull | .cmdReserved3 => .fault .overlappingCommand
  | .marker m => execMarker m s
  | .mdStreaminfo last len => execMdStreaminfo last len s
  | .mdPadding last len => execMdPadding last len s
  | .mdApplication last len => execMdApplication last len s
  | .mdSeektable last len => execMdSeektable last len s
  | .mdVorbisComment last len => execMdVorbisComment last len s
  | .mdCuesheet last len => execMdCuesheet last len s
  | .mdPicture last len => execMdPicture last len s
  | .mdUnknownTypes7To7 last len => execMdUnknownTypes7To7 last len s
  | .mdUnknownTypes8To15 last t len => execMdUnknownTypes8To15 last t len s
  | .mdUnknownTypes16To31 last t len => execMdUnknownTypes16To31 last t len s
  | .mdUnknownTypes32To63 last t len => execMdUnknownTypes32To63 last t len s
  | .mdUnknownTypes64To127 last t len => execMdUnknownTypes64To127 last t len s
  | .fhBlocking0 => execFhBlocking0 s
  | .fhBlocking1 => execFhBlocking1 s
  | .fhBadSync sync => execFhBadSync sync s
  | .fhReservedA1 => execFhReservedA1 s
  | .fhReservedB1 bps => execFhReservedB1 bps s
  | .fhBs0 => execFhBs0 s
  | .fhBs1 => execFhBs1 s
  | .fhBs2 => execFhBs2 s
  | .fhBs3 => execFhBs3 s
  | .fhBs4 => execFhBs4 s
  | .fhBs5 => execFhBs5 s
  | .fhBs6 => execFhBs6 s
  | .fhBs7 => execFhBs7 s
  | .fhBs8 => execFhBs8 s
  | .fhBs9 => execFhBs9 s
  | .fhBs10 => execFhBs10 s
  | .fhBs11 => execFhBs11 s
  | .fhBs12 => execFhBs12 s
  | .fhBs13 => execFhBs13 s
  | .fhBs14 => execFhBs14 s
  | .fhBs15 => execFhBs15 s
  | .fhSr0 => execFhSr0 s
  | .fhSr1 => execFhSr1 s
  | .fhSr2 => execFhSr2 s
  | .fhSr3 => execFhSr3 s
  | .fhSr4 => execFhSr4 s
  | .fhSr5 => execFhSr5 s
  | .fhSr6 => execFhSr6 s
  | .fhSr7 => execFhSr7 s
  | .fhSr8 => execFhSr8 s
  | .fhSr9 => execFhSr9 s
  | .fhSr10 => execFhSr10 s
  | .fhSr11 => execFhSr11 s
  | .fhSr12 => execFhSr12 s
  | .fhSr13 => execFhSr13 s
  | .fhSr14 => execFhSr14 s
  | .fhSr15 => execFhSr15 s
  | .fhCh0 => execFhCh0 s
  | .fhCh1 => execFhCh1 s
  | .fhCh2 => execFhCh2 s
  | .fhCh3 => execFhCh3 s
  | .fhCh4 => execFhCh4 s
  | .fhCh5 => execFhCh5 s
  | .fhCh6 => execFhCh6 s
  | .fhCh7 => execFhCh7 s
  | .fhCh8 => execFhCh8 s
  | .fhCh9 => execFhCh9 s
  | .fhCh10 => execFhCh10 s
  | .fhCh11 => execFhCh11 s
  | .fhCh12 => execFhCh12 s
  | .fhCh13 => execFhCh13 s
  | .fhCh14 => execFhCh14 s
  | .fhCh15 => execFhCh15 s
  | .fhBps0 => execFhBps0 s
  | .fhBps1 => execFhBps1 s
  | .fhBps2 => execFhBps2 s
  | .fhBps3 => execFhBps3 s
  | .fhBps4 => execFhBps4 s
  | .fhBps5 => execFhBps5 s
  | .fhBps6 => execFhBps6 s
  | .fhBps7 => execFhBps7 s
  | .numLead00 x => execNumLead00 x s
  | .numLead80 x => execNumLead80 x s
  | .numLeadC0 x => execNumLeadC0 x s
  | .numLeadE0 x => execNumLeadE0 x s
  | .numLeadF0 x => execNumLeadF0 x s
  | .numLeadF8 x => execNumLeadF8 x s
  | .numLeadFC x => execNumLeadFC x s
  | .numLeadFE => execNumLeadFE s
  | .numLeadFF => execNumLeadFF s
  | .numContinuation c => execNumContinuation c s
  | .bs8 t => execBs8 t s
  | .bs16 t => execBs16 t s
  | .sr8 t => execSr8 t s
  | .sr16 t => execSr16 t s
  | .sr16x10 t => execSr16x10 t s
  | .crc8 crc => execCrc8 crc s
  | .sfReserved1 => execSfReserved1 s
  | .sfConstant wasted => execSfConstant wasted s
  | .sfVerbatim wasted => execSfVerbatim wasted s
  | .sfReservedTypes2To3 x => execSfReservedTypes2To3 x s
  | .sfReservedTypes4To7 x => execSfReservedTypes4To7 x s
  | .sfFixed0 wasted => execSfFixed0 wasted s
  | .sfFixed1 wasted => execSfFixed1 wasted s
  | .sfFixed2 wasted => execSfFixed2 wasted s
  | .sfFixed3 wasted => execSfFixed3 wasted s
  | .sfFixed4 wasted => execSfFixed4 wasted s
  | .sfReservedType13 => execSfReservedType13 s
  | .sfReservedTypes14To15 x => execSfReservedTypes14To15 x s
  | .sfReservedTypes16To31 x => execSfReservedTypes16To31 x s
  | .sfLpc1 wasted => execSfLpc1 wasted s
  | .sfLpc2 wasted => execSfLpc2 wasted s
  | .sfLpc3 wasted => execSfLpc3 wasted s
  | .sfLpc4 wasted => execSfLpc4 wasted s
  | .sfLpc5 wasted => execSfLpc5 wasted s
  | .sfLpc6 wasted => execSfLpc6 wasted s
  | .sfLpc7 wasted => execSfLpc7 wasted s
  | .sfLpc8 wasted => execSfLpc8 wasted s
  | .sfLpc9 wasted => execSfLpc9 wasted s
  | .sfLpc10 wasted => execSfLpc10 wasted s
  | .sfLpc11 wasted => execSfLpc11 wasted s
  | .sfLpc12 wasted => execSfLpc12 wasted s
  | .sfLpc13 wasted => execSfLpc13 wasted s
  | .sfLpc14 wasted => execSfLpc14 wasted s
  | .sfLpc15 wasted => execSfLpc15 wasted s
  | .sfLpc16 wasted => execSfLpc16 wasted s
  | .sfLpc17 wasted => execSfLpc17 wasted s
  | .sfLpc18 wasted => execSfLpc18 wasted s
  | .sfLpc19 wasted => execSfLpc19 wasted s
  | .sfLpc20 wasted => execSfLpc20 wasted s
  | .sfLpc21 wasted => execSfLpc21 wasted s
  | .sfLpc22 wasted => execSfLpc22 wasted s
  | .sfLpc23 wasted => execSfLpc23 wasted s
  | .sfLpc24 wasted => execSfLpc24 wasted s
  | .sfLpc25 wasted => execSfLpc25 wasted s
  | .sfLpc26 wasted => execSfLpc26 wasted s
  | .sfLpc27 wasted => execSfLpc27 wasted s
  | .sfLpc28 wasted => execSfLpc28 wasted s
  | .sfLpc29 wasted => execSfLpc29 wasted s
  | .sfLpc30 wasted => execSfLpc30 wasted s
  | .sfLpc31 wasted => execSfLpc31 wasted s
  | .sfLpc32 wasted => execSfLpc32 wasted s
  | .resMethod0 porder => execResMethod0 porder s
  | .resMethod1 porder => execResMethod1 porder s
  | .resMethod2To3 x => execResMethod2To3 x s
  | .part4K k => execPart4K k s
  | .part4Escape => execPart4Escape s
  | .part5K k => execPart5K k s
  | .part5Escape => execPart5Escape s
  | .esc width => execEsc width s
  | .pad bits => execPad bits s
  | .crc16 crc => execCrc16 crc s

/-- One element inside a command. -/
def elementStep (s : State) : Host.Outcome State Fault Refusal :=
  match decodeHere s with
  | .ok (i, _) => runElement i s
  | .error e => .refused (.undecodable e)

/-- Runs elements until the command has ended, at most `fuel` of them. -/
def drain : Nat → State → Host.Outcome State Fault Refusal
  | 0, s => .next s
  | fuel + 1, s =>
    if s.seq.pos = .host then .next s
    else
      match elementStep s with
      | .next t => drain fuel t
      | .fault f => .fault f
      | .refused r => .refused r

/-- Enough elements for any command (R339): each reads at least one bit, but for an empty padding and the one that ends the command. -/
def commandFuel (s : State) : Nat := 8 * s.src.length + s.bitsLeft + 2

/-- Runs the command that has just started to its end (R271: one atomic transition). -/
def runCommand (s : State) : Host.Outcome State Fault Refusal := drain (commandFuel s) s

end Sys2Proof.Machine
end

