-- ==== Sys2Proof/Machine/Control.lean ====
section
/-!
DEFINITION. The host commands (R270 to R279, R330): which one runs in which state, and each as one atomic transition.
-/

namespace Sys2Proof.Machine

/-- A refused command (R278, R318). -/
def rejected (s : State) : State := { s with lastResult := .rejected }

/-- A command's meaning, for the case that no command runs; commands never overlap (R282, R335). -/
def whenIdle (s : State) (run : Host.Outcome State Fault Refusal) : Host.Outcome State Fault Refusal :=
  if s.seq.pos = .host then run else .fault .overlappingCommand

/-- Reset (R330): every register at its value of R42; the configuration, the byte source, the host's inputs and the
records emitted so far stay. -/
def resetCore (s : State) : State :=
  { State.reset with cfg := s.cfg, src := s.src, host := s.host, metadataOut := s.metadataOut, frameOut := s.frameOut }

/-- The start of OPEN (R140, R274). -/
def beginOpen (s : State) : State :=
  if s.cfg.expectMarker then { s with seq.pos := .marker } else { s with md.count := 0, seq.pos := .metadata }

/-- OPEN (R274). -/
def openStream (s : State) : Host.Outcome State Fault Refusal :=
  match s.state with
  | .idle => runCommand (beginOpen s)
  | .ready => .next (rejected s)
  | .ended => .next (rejected s)
  | .failed => .next (rejected s)

/-- Steps 3 and 4 of PULL (R275), where the current frame begins (R32). -/
def beginPull (s : State) : State :=
  { crcBegin { alignDiscard (newFrame s) with atPullStart := true } with seq.pos := .sync }

/-- Whether the counted samples are all out (R276, case b). -/
def totalReached (s : State) : Bool := decide (s.si.total ≠ 0 ∧ s.samplesOut.toNat ≥ s.si.total.toNat)

/-- PULL (R275, R276). -/
def pullFrame (s : State) : Host.Outcome State Fault Refusal :=
  match s.state with
  | .idle => .next (rejected s)
  | .ready =>
    if totalReached s then .next { s with state := .ended, lastResult := .ended } else runCommand (beginPull s)
  | .ended => .next { s with lastResult := .ended }
  | .failed => .next (rejected s)

/-- CMD RESET (R273). -/
def execCmdReset (s : State) : Host.Outcome State Fault Refusal := whenIdle s (.next (resetCore s))

/-- CMD OPEN (R274). -/
def execCmdOpen (s : State) : Host.Outcome State Fault Refusal := whenIdle s (openStream s)

/-- CMD PULL (R275). -/
def execCmdPull (s : State) : Host.Outcome State Fault Refusal := whenIdle s (pullFrame s)

/-- CMD RESERVED3 (R278). -/
def execCmdReserved3 (s : State) : Host.Outcome State Fault Refusal := whenIdle s (.next (rejected s))

end Sys2Proof.Machine
end

