-- ==== Sys2Proof/Machine/Dispatch.lean ====
section
/-!
DEFINITION. One arm per instruction: the meaning it has.
-/

namespace Sys2Proof.Machine

def exec (i : Instr) (s : State) : Host.Outcome State Fault Refusal :=
  match i with
  | .cmdReset => Sys2Proof.Machine.execCmdReset s
  | .cmdOpen => Sys2Proof.Machine.execCmdOpen s
  | .cmdPull => Sys2Proof.Machine.execCmdPull s
  | .cmdReserved3 => Sys2Proof.Machine.execCmdReserved3 s
  | .marker m => Sys2Proof.Machine.execMarker m s
  | .mdStreaminfo last len => Sys2Proof.Machine.execMdStreaminfo last len s
  | .mdPadding last len => Sys2Proof.Machine.execMdPadding last len s
  | .mdApplication last len => Sys2Proof.Machine.execMdApplication last len s
  | .mdSeektable last len => Sys2Proof.Machine.execMdSeektable last len s
  | .mdVorbisComment last len => Sys2Proof.Machine.execMdVorbisComment last len s
  | .mdCuesheet last len => Sys2Proof.Machine.execMdCuesheet last len s
  | .mdPicture last len => Sys2Proof.Machine.execMdPicture last len s
  | .mdUnknownTypes7To7 last len => Sys2Proof.Machine.execMdUnknownTypes7To7 last len s
  | .mdUnknownTypes8To15 last t len => Sys2Proof.Machine.execMdUnknownTypes8To15 last t len s
  | .mdUnknownTypes16To31 last t len => Sys2Proof.Machine.execMdUnknownTypes16To31 last t len s
  | .mdUnknownTypes32To63 last t len => Sys2Proof.Machine.execMdUnknownTypes32To63 last t len s
  | .mdUnknownTypes64To127 last t len => Sys2Proof.Machine.execMdUnknownTypes64To127 last t len s
  | .fhBlocking0 => Sys2Proof.Machine.execFhBlocking0 s
  | .fhBlocking1 => Sys2Proof.Machine.execFhBlocking1 s
  | .fhBadSync sync => Sys2Proof.Machine.execFhBadSync sync s
  | .fhReservedA1 => Sys2Proof.Machine.execFhReservedA1 s
  | .fhReservedB1 bps => Sys2Proof.Machine.execFhReservedB1 bps s
  | .fhBs0 => Sys2Proof.Machine.execFhBs0 s
  | .fhBs1 => Sys2Proof.Machine.execFhBs1 s
  | .fhBs2 => Sys2Proof.Machine.execFhBs2 s
  | .fhBs3 => Sys2Proof.Machine.execFhBs3 s
  | .fhBs4 => Sys2Proof.Machine.execFhBs4 s
  | .fhBs5 => Sys2Proof.Machine.execFhBs5 s
  | .fhBs6 => Sys2Proof.Machine.execFhBs6 s
  | .fhBs7 => Sys2Proof.Machine.execFhBs7 s
  | .fhBs8 => Sys2Proof.Machine.execFhBs8 s
  | .fhBs9 => Sys2Proof.Machine.execFhBs9 s
  | .fhBs10 => Sys2Proof.Machine.execFhBs10 s
  | .fhBs11 => Sys2Proof.Machine.execFhBs11 s
  | .fhBs12 => Sys2Proof.Machine.execFhBs12 s
  | .fhBs13 => Sys2Proof.Machine.execFhBs13 s
  | .fhBs14 => Sys2Proof.Machine.execFhBs14 s
  | .fhBs15 => Sys2Proof.Machine.execFhBs15 s
  | .fhSr0 => Sys2Proof.Machine.execFhSr0 s
  | .fhSr1 => Sys2Proof.Machine.execFhSr1 s
  | .fhSr2 => Sys2Proof.Machine.execFhSr2 s
  | .fhSr3 => Sys2Proof.Machine.execFhSr3 s
  | .fhSr4 => Sys2Proof.Machine.execFhSr4 s
  | .fhSr5 => Sys2Proof.Machine.execFhSr5 s
  | .fhSr6 => Sys2Proof.Machine.execFhSr6 s
  | .fhSr7 => Sys2Proof.Machine.execFhSr7 s
  | .fhSr8 => Sys2Proof.Machine.execFhSr8 s
  | .fhSr9 => Sys2Proof.Machine.execFhSr9 s
  | .fhSr10 => Sys2Proof.Machine.execFhSr10 s
  | .fhSr11 => Sys2Proof.Machine.execFhSr11 s
  | .fhSr12 => Sys2Proof.Machine.execFhSr12 s
  | .fhSr13 => Sys2Proof.Machine.execFhSr13 s
  | .fhSr14 => Sys2Proof.Machine.execFhSr14 s
  | .fhSr15 => Sys2Proof.Machine.execFhSr15 s
  | .fhCh0 => Sys2Proof.Machine.execFhCh0 s
  | .fhCh1 => Sys2Proof.Machine.execFhCh1 s
  | .fhCh2 => Sys2Proof.Machine.execFhCh2 s
  | .fhCh3 => Sys2Proof.Machine.execFhCh3 s
  | .fhCh4 => Sys2Proof.Machine.execFhCh4 s
  | .fhCh5 => Sys2Proof.Machine.execFhCh5 s
  | .fhCh6 => Sys2Proof.Machine.execFhCh6 s
  | .fhCh7 => Sys2Proof.Machine.execFhCh7 s
  | .fhCh8 => Sys2Proof.Machine.execFhCh8 s
  | .fhCh9 => Sys2Proof.Machine.execFhCh9 s
  | .fhCh10 => Sys2Proof.Machine.execFhCh10 s
  | .fhCh11 => Sys2Proof.Machine.execFhCh11 s
  | .fhCh12 => Sys2Proof.Machine.execFhCh12 s
  | .fhCh13 => Sys2Proof.Machine.execFhCh13 s
  | .fhCh14 => Sys2Proof.Machine.execFhCh14 s
  | .fhCh15 => Sys2Proof.Machine.execFhCh15 s
  | .fhBps0 => Sys2Proof.Machine.execFhBps0 s
  | .fhBps1 => Sys2Proof.Machine.execFhBps1 s
  | .fhBps2 => Sys2Proof.Machine.execFhBps2 s
  | .fhBps3 => Sys2Proof.Machine.execFhBps3 s
  | .fhBps4 => Sys2Proof.Machine.execFhBps4 s
  | .fhBps5 => Sys2Proof.Machine.execFhBps5 s
  | .fhBps6 => Sys2Proof.Machine.execFhBps6 s
  | .fhBps7 => Sys2Proof.Machine.execFhBps7 s
  | .numLead00 x => Sys2Proof.Machine.execNumLead00 x s
  | .numLead80 x => Sys2Proof.Machine.execNumLead80 x s
  | .numLeadC0 x => Sys2Proof.Machine.execNumLeadC0 x s
  | .numLeadE0 x => Sys2Proof.Machine.execNumLeadE0 x s
  | .numLeadF0 x => Sys2Proof.Machine.execNumLeadF0 x s
  | .numLeadF8 x => Sys2Proof.Machine.execNumLeadF8 x s
  | .numLeadFC x => Sys2Proof.Machine.execNumLeadFC x s
  | .numLeadFE => Sys2Proof.Machine.execNumLeadFE s
  | .numLeadFF => Sys2Proof.Machine.execNumLeadFF s
  | .numContinuation c => Sys2Proof.Machine.execNumContinuation c s
  | .bs8 t => Sys2Proof.Machine.execBs8 t s
  | .bs16 t => Sys2Proof.Machine.execBs16 t s
  | .sr8 t => Sys2Proof.Machine.execSr8 t s
  | .sr16 t => Sys2Proof.Machine.execSr16 t s
  | .sr16x10 t => Sys2Proof.Machine.execSr16x10 t s
  | .crc8 crc => Sys2Proof.Machine.execCrc8 crc s
  | .sfReserved1 => Sys2Proof.Machine.execSfReserved1 s
  | .sfConstant wasted => Sys2Proof.Machine.execSfConstant wasted s
  | .sfVerbatim wasted => Sys2Proof.Machine.execSfVerbatim wasted s
  | .sfReservedTypes2To3 x => Sys2Proof.Machine.execSfReservedTypes2To3 x s
  | .sfReservedTypes4To7 x => Sys2Proof.Machine.execSfReservedTypes4To7 x s
  | .sfFixed0 wasted => Sys2Proof.Machine.execSfFixed0 wasted s
  | .sfFixed1 wasted => Sys2Proof.Machine.execSfFixed1 wasted s
  | .sfFixed2 wasted => Sys2Proof.Machine.execSfFixed2 wasted s
  | .sfFixed3 wasted => Sys2Proof.Machine.execSfFixed3 wasted s
  | .sfFixed4 wasted => Sys2Proof.Machine.execSfFixed4 wasted s
  | .sfReservedType13 => Sys2Proof.Machine.execSfReservedType13 s
  | .sfReservedTypes14To15 x => Sys2Proof.Machine.execSfReservedTypes14To15 x s
  | .sfReservedTypes16To31 x => Sys2Proof.Machine.execSfReservedTypes16To31 x s
  | .sfLpc1 wasted => Sys2Proof.Machine.execSfLpc1 wasted s
  | .sfLpc2 wasted => Sys2Proof.Machine.execSfLpc2 wasted s
  | .sfLpc3 wasted => Sys2Proof.Machine.execSfLpc3 wasted s
  | .sfLpc4 wasted => Sys2Proof.Machine.execSfLpc4 wasted s
  | .sfLpc5 wasted => Sys2Proof.Machine.execSfLpc5 wasted s
  | .sfLpc6 wasted => Sys2Proof.Machine.execSfLpc6 wasted s
  | .sfLpc7 wasted => Sys2Proof.Machine.execSfLpc7 wasted s
  | .sfLpc8 wasted => Sys2Proof.Machine.execSfLpc8 wasted s
  | .sfLpc9 wasted => Sys2Proof.Machine.execSfLpc9 wasted s
  | .sfLpc10 wasted => Sys2Proof.Machine.execSfLpc10 wasted s
  | .sfLpc11 wasted => Sys2Proof.Machine.execSfLpc11 wasted s
  | .sfLpc12 wasted => Sys2Proof.Machine.execSfLpc12 wasted s
  | .sfLpc13 wasted => Sys2Proof.Machine.execSfLpc13 wasted s
  | .sfLpc14 wasted => Sys2Proof.Machine.execSfLpc14 wasted s
  | .sfLpc15 wasted => Sys2Proof.Machine.execSfLpc15 wasted s
  | .sfLpc16 wasted => Sys2Proof.Machine.execSfLpc16 wasted s
  | .sfLpc17 wasted => Sys2Proof.Machine.execSfLpc17 wasted s
  | .sfLpc18 wasted => Sys2Proof.Machine.execSfLpc18 wasted s
  | .sfLpc19 wasted => Sys2Proof.Machine.execSfLpc19 wasted s
  | .sfLpc20 wasted => Sys2Proof.Machine.execSfLpc20 wasted s
  | .sfLpc21 wasted => Sys2Proof.Machine.execSfLpc21 wasted s
  | .sfLpc22 wasted => Sys2Proof.Machine.execSfLpc22 wasted s
  | .sfLpc23 wasted => Sys2Proof.Machine.execSfLpc23 wasted s
  | .sfLpc24 wasted => Sys2Proof.Machine.execSfLpc24 wasted s
  | .sfLpc25 wasted => Sys2Proof.Machine.execSfLpc25 wasted s
  | .sfLpc26 wasted => Sys2Proof.Machine.execSfLpc26 wasted s
  | .sfLpc27 wasted => Sys2Proof.Machine.execSfLpc27 wasted s
  | .sfLpc28 wasted => Sys2Proof.Machine.execSfLpc28 wasted s
  | .sfLpc29 wasted => Sys2Proof.Machine.execSfLpc29 wasted s
  | .sfLpc30 wasted => Sys2Proof.Machine.execSfLpc30 wasted s
  | .sfLpc31 wasted => Sys2Proof.Machine.execSfLpc31 wasted s
  | .sfLpc32 wasted => Sys2Proof.Machine.execSfLpc32 wasted s
  | .resMethod0 porder => Sys2Proof.Machine.execResMethod0 porder s
  | .resMethod1 porder => Sys2Proof.Machine.execResMethod1 porder s
  | .resMethod2To3 x => Sys2Proof.Machine.execResMethod2To3 x s
  | .part4K k => Sys2Proof.Machine.execPart4K k s
  | .part4Escape => Sys2Proof.Machine.execPart4Escape s
  | .part5K k => Sys2Proof.Machine.execPart5K k s
  | .part5Escape => Sys2Proof.Machine.execPart5Escape s
  | .esc width => Sys2Proof.Machine.execEsc width s
  | .pad bits => Sys2Proof.Machine.execPad bits s
  | .crc16 crc => Sys2Proof.Machine.execCrc16 crc s

end Sys2Proof.Machine
end

