-- ==== Sys2Proof/Machine/Fetch.lean ====
section
/-!
DEFINITION. Where the next instruction comes from: the host's next command code between commands (R270), the element at
the read cursor inside one; and how a word of the opcode table is stored there.
-/

namespace Sys2Proof.Machine

/-- What a step finds. -/
inductive Fetched where
  /-- no host input: nothing to do -/
  | stutter
  /-- the host presents or repositions the byte source -/
  | present (answers : List SrcAnswer) (s : State)
  /-- an instruction, and the state it runs in -/
  | run (i : Instr) (s : State)
  /-- bits that give no instruction -/
  | undecodable (e : DecodeError)
deriving DecidableEq, Repr

/-- The next instruction. A host input leaves the queue as it is taken. -/
def fetchInstr (s : State) : Fetched :=
  if s.seq.pos = .host then
    match s.host with
    | [] => .stutter
    | .source answers :: rest => .present answers { s with host := rest }
    | .command c :: rest =>
      match decode .host 0 (natToBits 2 c.toNat) with
      | .ok (i, _) => .run i { s with host := rest }
      | .error e => .undecodable e
  else
    match decodeHere s with
    | .ok (i, _) => .run i s
    | .error e => .undecodable e

/-- The host presents the source before OPEN (R332) or repositions it in `READY` (R75, R279); elsewhere the contract has no such move. -/
def presentSource (answers : List SrcAnswer) (s : State) : Host.Outcome State Fault Refusal :=
  match s.state with
  | .idle => .next { s with src := answers }
  | .ready => .next { s with src := answers }
  | .ended => .fault .sourceMovedOutsideContract
  | .failed => .fault .sourceMovedOutsideContract

/-- The n low bytes of w, the most significant first, as answers of the byte source (R64). -/
def bytesOf : Nat → Nat → List SrcAnswer
  | 0, _ => []
  | n + 1, w => .byte (BitVec.ofNat 8 (w >>> (8 * n))) :: bytesOf n w

/-- Stores a word of the opcode table where the next instruction is fetched: a command code at the head of the host's
inputs, an element's bits at the read cursor with the sequencer at its position, zero bytes after them. -/
def placeWord (s : State) (nbits w : Nat) : State :=
  let (pos, k) := tableSlot nbits w
  if pos = .host then { s with seq.pos := .host, host := .command (BitVec.ofNat 2 w) :: s.host }
  else
    { s with
      seq.pos := pos
      buf := if k % 8 = 0 then s.buf else BitVec.ofNat 8 (w >>> (8 * (k / 8)))
      bitsLeft := k % 8
      src := bytesOf (k / 8) w ++ (bytesOf 64 0 ++ s.src) }

end Sys2Proof.Machine
end

