-- ==== Sys2Proof/Machine/Step.lean ====
section
/-!
DEFINITION. One step: the host's next input, a command run to its end (R271), or, in a state inside a command, one element.
-/

namespace Sys2Proof.Machine

/-- One step. Between commands the core does nothing of its own (R20, R317). -/
def step (s : State) : Host.Outcome State Fault Refusal :=
  match fetchInstr s with
  | .stutter => .next s
  | .present answers t => presentSource answers t
  | .run i t => exec i t
  | .undecodable e => .refused (.undecodable e)

/-- `s` with a word of the opcode table stored where `step` fetches next (log entry 6). -/
def State.withFetchWord (s : State) (nbits w : Nat) : State := placeWord s nbits w

end Sys2Proof.Machine
end

