-- ==== Sys2Proof/Safety.lean ====
section
/-!
DEFINITION. The terms in which claims are stated: rows of the opcode table by what they carry, the notation of rule R107
for streams, the cursor moved over bits, what a sample RAM holds, and the invariant of a safe run.
-/

namespace Sys2Proof

/-! ### Rows of the opcode table by what they carry -/

/-- The rows passed through raw (R148 to R154): last flag, type code, length. -/
def Instr.rawBlock? : Instr → Option (Bool × BitVec 7 × BitVec 24)
  | .mdPadding last len => some (last, 1, len)
  | .mdApplication last len => some (last, 2, len)
  | .mdSeektable last len => some (last, 3, len)
  | .mdVorbisComment last len => some (last, 4, len)
  | .mdCuesheet last len => some (last, 5, len)
  | .mdPicture last len => some (last, 6, len)
  | .mdUnknownTypes7To7 last len => some (last, 7, len)
  | .mdUnknownTypes8To15 last t len => some (last, BitVec.ofNat 7 (8 + t.toNat), len)
  | .mdUnknownTypes16To31 last t len => some (last, BitVec.ofNat 7 (16 + t.toNat), len)
  | .mdUnknownTypes32To63 last t len => some (last, BitVec.ofNat 7 (32 + t.toNat), len)
  | .mdUnknownTypes64To127 last t len => some (last, BitVec.ofNat 7 (64 + t.toNat), len)
  | _ => none

/-- The block-size code of a row `FH_bs_*` (R86). -/
def Instr.bsCode? : Instr → Option Nat
  | .fhBs0 => some 0
  | .fhBs1 => some 1
  | .fhBs2 => some 2
  | .fhBs3 => some 3
  | .fhBs4 => some 4
  | .fhBs5 => some 5
  | .fhBs6 => some 6
  | .fhBs7 => some 7
  | .fhBs8 => some 8
  | .fhBs9 => some 9
  | .fhBs10 => some 10
  | .fhBs11 => some 11
  | .fhBs12 => some 12
  | .fhBs13 => some 13
  | .fhBs14 => some 14
  | .fhBs15 => some 15
  | _ => none

/-- The sample-rate code of a row `FH_sr_*` (R87). -/
def Instr.srCode? : Instr → Option Nat
  | .fhSr0 => some 0
  | .fhSr1 => some 1
  | .fhSr2 => some 2
  | .fhSr3 => some 3
  | .fhSr4 => some 4
  | .fhSr5 => some 5
  | .fhSr6 => some 6
  | .fhSr7 => some 7
  | .fhSr8 => some 8
  | .fhSr9 => some 9
  | .fhSr10 => some 10
  | .fhSr11 => some 11
  | .fhSr12 => some 12
  | .fhSr13 => some 13
  | .fhSr14 => some 14
  | .fhSr15 => some 15
  | _ => none

/-- The channel-assignment code of a row `FH_ch_*` (R88). -/
def Instr.chCode? : Instr → Option Nat
  | .fhCh0 => some 0
  | .fhCh1 => some 1
  | .fhCh2 => some 2
  | .fhCh3 => some 3
  | .fhCh4 => some 4
  | .fhCh5 => some 5
  | .fhCh6 => some 6
  | .fhCh7 => some 7
  | .fhCh8 => some 8
  | .fhCh9 => some 9
  | .fhCh10 => some 10
  | .fhCh11 => some 11
  | .fhCh12 => some 12
  | .fhCh13 => some 13
  | .fhCh14 => some 14
  | .fhCh15 => some 15
  | _ => none

/-- The bits-per-sample code and the reserved bit after it of a row `FH_bps_*` or `FH_reserved_b_1` (R89, R179). -/
def Instr.bpsCode? : Instr → Option (Nat × Bool)
  | .fhBps0 => some (0, false)
  | .fhBps1 => some (1, false)
  | .fhBps2 => some (2, false)
  | .fhBps3 => some (3, false)
  | .fhBps4 => some (4, false)
  | .fhBps5 => some (5, false)
  | .fhBps6 => some (6, false)
  | .fhBps7 => some (7, false)
  | .fhReservedB1 bps => some (bps.toNat, true)
  | _ => none

/-- The length and the free bits of a number's first byte that R90 allows for some blocking strategy. -/
def Instr.numberLead? : Instr → Option (Nat × Nat)
  | .numLead00 x => some (1, x.toNat)
  | .numLeadC0 x => some (2, x.toNat)
  | .numLeadE0 x => some (3, x.toNat)
  | .numLeadF0 x => some (4, x.toNat)
  | .numLeadF8 x => some (5, x.toNat)
  | .numLeadFC x => some (6, x.toNat)
  | .numLeadFE => some (7, 0)
  | _ => none

/-- The type code of a reserved subframe row (R92). -/
def Instr.reservedType? : Instr → Option Nat
  | .sfReservedTypes2To3 x => some (2 + x.toNat)
  | .sfReservedTypes4To7 x => some (4 + x.toNat)
  | .sfReservedType13 => some 13
  | .sfReservedTypes14To15 x => some (14 + x.toNat)
  | .sfReservedTypes16To31 x => some (16 + x.toNat)
  | _ => none

/-- The order and wasted-bits flag of a row `SF_FIXED*` (R92). -/
def Instr.fixedOrder? : Instr → Option (Nat × Bool)
  | .sfFixed0 wasted => some (0, wasted)
  | .sfFixed1 wasted => some (1, wasted)
  | .sfFixed2 wasted => some (2, wasted)
  | .sfFixed3 wasted => some (3, wasted)
  | .sfFixed4 wasted => some (4, wasted)
  | _ => none

/-- The order and wasted-bits flag of a row `SF_LPC*` (R92). -/
def Instr.lpcOrder? : Instr → Option (Nat × Bool)
  | .sfLpc1 wasted => some (1, wasted)
  | .sfLpc2 wasted => some (2, wasted)
  | .sfLpc3 wasted => some (3, wasted)
  | .sfLpc4 wasted => some (4, wasted)
  | .sfLpc5 wasted => some (5, wasted)
  | .sfLpc6 wasted => some (6, wasted)
  | .sfLpc7 wasted => some (7, wasted)
  | .sfLpc8 wasted => some (8, wasted)
  | .sfLpc9 wasted => some (9, wasted)
  | .sfLpc10 wasted => some (10, wasted)
  | .sfLpc11 wasted => some (11, wasted)
  | .sfLpc12 wasted => some (12, wasted)
  | .sfLpc13 wasted => some (13, wasted)
  | .sfLpc14 wasted => some (14, wasted)
  | .sfLpc15 wasted => some (15, wasted)
  | .sfLpc16 wasted => some (16, wasted)
  | .sfLpc17 wasted => some (17, wasted)
  | .sfLpc18 wasted => some (18, wasted)
  | .sfLpc19 wasted => some (19, wasted)
  | .sfLpc20 wasted => some (20, wasted)
  | .sfLpc21 wasted => some (21, wasted)
  | .sfLpc22 wasted => some (22, wasted)
  | .sfLpc23 wasted => some (23, wasted)
  | .sfLpc24 wasted => some (24, wasted)
  | .sfLpc25 wasted => some (25, wasted)
  | .sfLpc26 wasted => some (26, wasted)
  | .sfLpc27 wasted => some (27, wasted)
  | .sfLpc28 wasted => some (28, wasted)
  | .sfLpc29 wasted => some (29, wasted)
  | .sfLpc30 wasted => some (30, wasted)
  | .sfLpc31 wasted => some (31, wasted)
  | .sfLpc32 wasted => some (32, wasted)
  | _ => none

/-- The parameter width and the parameter of a row `PART4_k` or `PART5_k` (R98, R99). -/
def Instr.riceParameter? : Instr → Option (Nat × Nat)
  | .part4K k => some (4, k.toNat)
  | .part5K k => some (5, k.toNat)
  | _ => none

/-! ### The notation of R107 -/

/-- `S<n> v`. -/
def signedBits (n : Nat) (v : Int) : Bits := natToBits n (BitVec.ofInt n v).toNat

/-- `UNARY q`. -/
def unaryBits (q : Nat) : Bits := List.replicate q false ++ [true]

/-- The unsigned u that folds to v: 2v, or -2v - 1 for a negative v. -/
def unfold (v : Int) : Nat := if 0 ≤ v then (2 * v).toNat else (-2 * v - 1).toNat

/-- `RICE k v`. -/
def riceBits (k : Nat) (v : Int) : Bits := unaryBits (unfold v / 2 ^ k) ++ natToBits k (unfold v % 2 ^ k)

/-- The wasted-bits field after the flag for a count of wasted bits (R91): nothing for 0. -/
def wastedBits : Nat → Bits
  | 0 => []
  | k + 1 => unaryBits k

/-- A value an n-bit two's complement field can hold (R10, R124); a field of no bits holds 0. -/
def fits (n : Nat) (v : Int) : Bool :=
  if n = 0 then v == 0 else decide (-(2 ^ (n - 1) : Int) ≤ v ∧ v ≤ 2 ^ (n - 1) - 1)

namespace Machine

/-! ### The cursor -/

/-- The bits ahead of the cursor, as far as the byte source gives bytes without a break (R23, R64). -/
def State.stream (s : State) : Bits := natToBits s.bitsLeft s.buf.toNat ++ answerBits s.src

/-- The cursor with a bit in `BUF`: FETCH first where `BITS_LEFT` is 0 and a byte comes. -/
def State.loaded (s : State) : State :=
  if s.bitsLeft = 0 then
    match s.src with
    | .byte b :: rest => fetched b rest s
    | [] => s
    | .ioErr _ :: _ => s
  else s

/-- The cursor after one bit of `BUF` is taken (R122). -/
def State.bitTaken (s : State) : State := { s with bitsLeft := s.bitsLeft - 1 }

/-- The cursor moved over n bits, each byte fetched when its first bit is needed (R63). -/
def State.skip : Nat → State → State
  | 0, s => s
  | n + 1, s => State.skip n s.loaded.bitTaken

/-- What the FETCH leaves that finds no byte: the end of the sequence, end of data, or the source's failure (R121). -/
def State.noByte (s : State) : State :=
  match s.src with
  | [] => if s.atPullStart then endOfSequence s else errorEntry .unexpectedEof 0 0 s
  | .ioErr e :: rest => errorEntry .ioError 0 e { s with src := rest }
  | .byte _ :: _ => s

/-! ### Frame-header tables, each written out from its rule -/

/-- The block size of a code without a trailing field (R86), 0 at the codes that have none. -/
def blockSizeOf (code : Nat) : Nat :=
  [0, 192, 576, 1152, 2304, 4608, 0, 0, 256, 512, 1024, 2048, 4096, 8192, 16384, 32768].getD code 0

/-- The sample rate of a code without a trailing field (R87). -/
def rateOf (code : Nat) (siRate : BitVec 20) : Nat :=
  [siRate.toNat, 88200, 176400, 192000, 8000, 16000, 22050, 24000, 32000, 44100, 48000, 96000].getD code 0

/-- The bits per sample of a code (R89), 0 at the reserved code 3. -/
def depthOf (code : Nat) (siBps : BitVec 6) : Nat := [siBps.toNat, 8, 12, 0, 16, 20, 24, 32].getD code 0

/-- TRAILING from the sample rate on (R181, R182). -/
def State.afterBlockSize (s : State) : State :=
  if s.fh.srCode = 12 then { s with seq.pos := .sr8 }
  else if s.fh.srCode = 13 then { s with seq.pos := .sr16 }
  else if s.fh.srCode = 14 then { s with seq.pos := .sr16x10 }
  else { s with fh.rate := BitVec.ofNat 20 (rateOf s.fh.srCode.toNat s.si.rate), seq.pos := .crc8 }

/-- TRAILING (R181) after NUMBER, `FH_NUMBER` written. -/
def State.afterNumber (s : State) : State :=
  if s.fh.bsCode = 6 then { s with seq.pos := .bs8 }
  else if s.fh.bsCode = 7 then { s with seq.pos := .bs16 }
  else ({ s with fh.blockSize := BitVec.ofNat 17 (blockSizeOf s.fh.bsCode.toNat) } : State).afterBlockSize

/-! ### Subframes -/

/-- The width of subframe c before wasted bits: one bit more for a side channel (R200). -/
def fullWidth (fh : FrameHeader) (c : Nat) : Nat :=
  fh.bps.toNat +
    (if fh.assign = .leftSide ∧ c = 1 ∨ fh.assign = .rightSide ∧ c = 0 ∨ fh.assign = .middleSide ∧ c = 1 then 1 else 0)

/-- `SF_FULLW` (R29). -/
def State.fullWidthNow (s : State) : Nat := s.sf.fullW.toNat

/-- Ready for the header of subframe c (R200). -/
def State.atSubframe (s : State) (c : Nat) : State :=
  { s with
    sf.ch := BitVec.ofNat 3 c
    sf.fullW := BitVec.ofNat 6 (fullWidth s.fh c)
    seq.pos := .subframe }

/-- The subframe registers after a header of a type, kind and order with k wasted bits (R202, R203). -/
def Subframe.withHeader (sf : Subframe) (type : Nat) (kind : SubframeKind) (order k : Nat) : Subframe :=
  { sf with
    type := BitVec.ofNat 6 type
    kind := kind
    order := BitVec.ofNat 6 order
    wasted := BitVec.ofNat 6 k
    w := sf.fullW - BitVec.ofNat 6 k }

/-- The body of a StreamInfo block that fills the registers with `si` (R83). -/
def streamInfoBits (si : StreamInfo) : Bits :=
  natToBits 16 si.minBlock.toNat ++ natToBits 16 si.maxBlock.toNat ++ natToBits 24 si.minFrame.toNat ++
    natToBits 24 si.maxFrame.toNat ++ natToBits 20 si.rate.toNat ++ natToBits 3 (si.channels.toNat - 1) ++
    natToBits 5 (si.bps.toNat - 1) ++ natToBits 36 si.total.toNat ++ natToBits 64 (si.md5.toNat / 2 ^ 64) ++
    natToBits 64 (si.md5.toNat % 2 ^ 64)

/-- A StreamInfo set a body can encode: 1 to 8 channels, 1 to 32 bits per sample (R27, R83), decoded. -/
def StreamInfo.encodable (si : StreamInfo) : Bool :=
  si.valid && decide (1 ≤ si.channels.toNat ∧ si.channels.toNat ≤ 8) && decide (1 ≤ si.bps.toNat ∧ si.bps.toNat ≤ 32)

/-- The body of a StreamInfo record (R280). -/
def StreamInfo.recordBody (si : StreamInfo) : MetadataBody :=
  .streamInfo si.minBlock si.maxBlock si.minFrame si.maxFrame si.rate si.channels si.bps si.total si.md5

/-- FIXED_PRED_p(i) over the samples x (R208 to R212). -/
def fixedPrediction (p : Nat) (x : Nat → Int) (i : Nat) : Int :=
  match p with
  | 1 => x (i - 1)
  | 2 => 2 * x (i - 1) - x (i - 2)
  | 3 => 3 * x (i - 1) - 3 * x (i - 2) + x (i - 3)
  | 4 => 4 * x (i - 1) - 6 * x (i - 2) + 4 * x (i - 3) - x (i - 4)
  | _ => 0

/-- The LPC prediction over the samples x (R215): the sum shifted right, rounded toward minus infinity (R10). -/
def lpcPrediction (lpc : Lpc) (p : Nat) (x : Nat → Int) (i : Nat) : Int :=
  Int.fdiv (((List.range p).map fun j => (lpc.qlp[j]?.getD 0).toInt * x (i - 1 - j)).sum) (2 ^ lpc.shift.toNat)

/-- The output channels made of the subframes' rows f (R251 to R254). -/
def decorrelated (a : Assignment) (f : Nat → Nat → Int) (c i : Nat) : Int :=
  match a with
  | .independent => f c i
  | .leftSide => if c = 1 then f 0 i - f 1 i else f c i
  | .rightSide => if c = 0 then f 0 i + f 1 i else f c i
  | .middleSide =>
    let sum := 2 * f 0 i + f 1 i % 2
    if c = 0 then Int.fdiv (sum + f 1 i) 2 else if c = 1 then Int.fdiv (sum - f 1 i) 2 else f c i

/-! ### Sample RAMs -/

/-- A sample RAM's canonical form: addresses strictly rising and inside the RAM. -/
def SampleRam.wf : SampleRam → Bool
  | [] => true
  | [(k, _)] => decide (k < topChannels * topBlock)
  | (k, _) :: (k', v') :: rest => decide (k < k') && SampleRam.wf ((k', v') :: rest)

/-- The sample RAMs are in canonical form. -/
def Memory.wf (s : State) : Bool := SampleRam.wf s.sub && SampleRam.wf s.subEarlier && SampleRam.wf s.out

/-- What the register `SUB` holds at an address as the host reads it between commands (R40): the last frame's value there,
else the value an earlier frame left (R306). -/
def State.subEntry (s : State) (key : Nat) : Option Int :=
  match SampleRam.read key s.sub with
  | some v => some v
  | none => SampleRam.read key s.subEarlier

/-- Row c holds f(i) at each index i from lo up to hi - 1. -/
def SampleRam.Holds (ram : SampleRam) (c lo hi : Nat) (f : Nat → Int) : Prop :=
  ∀ i < hi, lo ≤ i → SampleRam.read (sampleKey c i) ram = some (f i)

/-- Every address but those of row c, indexes lo to hi - 1, reads as before. -/
def SampleRam.SameBut (before after : SampleRam) (c lo hi : Nat) : Prop :=
  ∀ key, (∀ i < hi, lo ≤ i → key ≠ sampleKey c i) → SampleRam.read key after = SampleRam.read key before

/-- Row c holds some value at each index below n. -/
def SampleRam.Written (ram : SampleRam) (c n : Nat) : Prop :=
  ∀ i < n, (SampleRam.read (sampleKey c i) ram).isSome

/-! ### The invariant -/

/-- The positions inside PULL (R275). -/
def inPull (p : Position) : Bool := p ≠ .host && !inOpen p

/-- The rows the current frame has written in full (R200). -/
def State.rowsWritten (s : State) (n : Nat) : Prop := ∀ c < n, SampleRam.Written s.sub c s.fh.blockSize.toNat

/-- Inside subframe c: c is a channel, and the rows before it are written. -/
def State.inChannel (s : State) : Prop := s.sf.ch.toNat < s.fh.channels.toNat ∧ s.rowsWritten s.sf.ch.toNat

/-- Inside a partition: the partition order fits (R232), and the row is written up to the partition (R230). -/
def State.inPartition (s : State) : Prop :=
  s.fh.blockSize.toNat % 2 ^ s.res.porder.toNat = 0 ∧
  s.sf.order.toNat ≤ s.fh.blockSize.toNat >>> s.res.porder.toNat ∧
  s.res.part.toNat < 2 ^ s.res.porder.toNat ∧
  SampleRam.Written s.sub s.sf.ch.toNat
    (partStart s.fh.blockSize.toNat s.sf.order.toNat s.res.porder.toNat s.res.part.toNat)

/-- What the current frame has left in the registers and in `SUB` at each position (R200: no entry is read before it is written). -/
def State.frameInv (s : State) : Prop :=
  match s.seq.pos with
  | .host | .marker | .metadata => True
  | .sync | .bsCode | .srCode | .chCode | .bpsCode | .number | .numCont | .bs8 | .bs16 | .sr8
    | .sr16 | .sr16x10 | .crc8 => s.sub = []
  | .subframe => s.inChannel
  | .residual => s.inChannel ∧ SampleRam.Written s.sub s.sf.ch.toNat s.sf.order.toNat
  | .part4 | .part5 | .esc => s.inChannel ∧ s.inPartition
  | .pad | .footer => s.rowsWritten s.fh.channels.toNat

/-- The invariant of the machine. -/
structure State.Inv (s : State) : Prop where
  /-- the sample RAMs are in canonical form -/
  memory : Memory.wf s = true
  /-- `BITS_LEFT` is 0 to 8 (R23) -/
  bitsLeft : s.bitsLeft ≤ 8
  /-- the header's values stay inside the sample RAM's addresses (R66, R176, R177) -/
  channels : s.fh.channels.toNat ≤ topChannels
  blockSize : s.fh.blockSize.toNat ≤ topBlock
  /-- no subframe has an order past the configured ones (R7, R202) -/
  order : s.sf.order.toNat ≤ max s.cfg.maxFixedOrder.val s.cfg.maxLpcOrder.val
  /-- the stereo assignments have two channels (R177) -/
  assignment : s.fh.assign ≠ .independent → s.fh.channels = 2
  /-- a command runs only in the state that accepts it (R271) -/
  opening : inOpen s.seq.pos = true → s.state = .idle
  pulling : inPull s.seq.pos = true → s.state = .ready
  /-- outside PULL no checksum accumulates and no PULL is at its start (R26, R128, R275) -/
  quiet : inPull s.seq.pos = false → s.crc8En = false ∧ s.crc16En = false ∧ s.atPullStart = false
  /-- the stream parameters are there once a block has been read, and once a stream is open (R27, R143) -/
  counted : s.seq.pos = .metadata → s.md.count ≠ 0 → s.si.valid = true
  valid : s.state = .ready ∨ s.state = .ended → s.si.valid = true
  /-- before a stream is open, StreamInfo has been decoded only where a metadata block has been counted (R27, R145) -/
  unopened : s.state = .idle → s.si.valid = true → s.seq.pos = .metadata ∧ s.md.count ≠ 0
  /-- what the current frame has left (R200) -/
  frame : s.frameInv

/-- MAX_CHANNELS and MAX_BLOCK at R7's values: the sample RAM has an entry for every sample of every frame (R176, R177). -/
def State.holdsEveryFrame (s : State) : Prop := s.cfg.maxChannels.val = topChannels ∧ s.cfg.maxBlock.val = topBlock

/-- The host's side of the contract for the next step: it presents or repositions the byte source only in `IDLE` and `READY` (R75, R332). -/
def State.hostInContract (s : State) : Prop :=
  s.seq.pos = .host → ∀ answers rest, s.host = .source answers :: rest → s.state = .idle ∨ s.state = .ready

end Machine

end Sys2Proof
end

