-- ==== Sys2Proof/Certificates/Slice0/Obligations.lean ====
section
/-!
DEFINITION. The statements for the provers, each taken from the rules of spec/ that its docstring cites.
`State.skip n` is the cursor moved over n bits, and `State.stream` the bits ahead of it (Safety.lean).
`seq` is the model's own (log entry 1): where a clause names it, it says what the model does between two elements of a command,
which no rule of spec/ gives a register for.
-/

open Sys2Proof Sys2Proof.Machine

/-! ### Reset and the machine as a whole -/

/-- R42, R330: the machine after reset, register by register; `SUB` and `OUT` hold no value. -/
def Obligations.ResetValues : Prop :=
  let s := State.reset
  s.state = .idle ∧ s.buf = 0 ∧ s.bitsLeft = 0 ∧ s.bytePos = 0 ∧
  s.crc8 = 0 ∧ s.crc8En = false ∧ s.crc16 = 0 ∧ s.crc16En = false ∧ s.atPullStart = false ∧
  s.si = { minBlock := 0, maxBlock := 0, minFrame := 0, maxFrame := 0, rate := 0, channels := 0, bps := 0, total := 0,
           md5 := 0, valid := false } ∧
  s.fh = { blocking := false, bsCode := 0, srCode := 0, chCode := 0, bpsCode := 0, number := 0, blockSize := 0, rate := 0,
           channels := 0, assign := .independent, bps := 0, crc8 := 0 } ∧
  s.sf = { ch := 0, type := 0, kind := .constant, order := 0, wasted := 0, fullW := 0, w := 0 } ∧
  s.lpc.prec = 0 ∧ s.lpc.shift = 0 ∧ (∀ j : Fin 32, s.lpc.qlp[j] = 0) ∧
  s.res = { method := 0, porder := 0, pw := 0, part := 0, param := 0, escBits := 0 } ∧
  (∀ key, s.subEntry key = none) ∧ (∀ key, SampleRam.read key s.out = none) ∧
  s.err = { kind := 0, sub := 0, bytePos := 0, bitsLeft := 0, ioCode := 0 } ∧
  s.lastResult = .noResult ∧ s.framesOk = 0 ∧ s.samplesOut = 0 ∧
  s.md = { count := 0, last := false, type := 0, len := 0 } ∧
  s.cfg = { maxChannels := 8, maxBlock := 65536, maxFixedOrder := 4, maxLpcOrder := 32,
            maxReadWidth := 33, blockSizeCheck := .max, paddingCheck := true, rangeCheck := true,
            expectMarker := true, resync := .none }

/-- R273, R330: RESET in every state, the configuration kept, no byte read, the records emitted before standing. -/
def Obligations.ResetCommand : Prop :=
  ∀ s : State, s.seq.pos = .host →
    exec .cmdReset s =
      .next { State.reset with
        cfg := s.cfg, src := s.src, host := s.host, metadataOut := s.metadataOut, frameOut := s.frameOut }

/-- The invariant holds after reset. -/
def Obligations.InvariantAtReset : Prop := State.reset.Inv

/-- The sample RAMs stay in canonical form through every step (R66). -/
def Obligations.StepKeepsMemoryCanonical : Prop :=
  ∀ s t : State, Memory.wf s = true → step s = .next t → Memory.wf t = true

/-- From every state of the invariant, with the host in its contract and the sample RAM of R7's size, the step answers a next
state and keeps the invariant: no malformed input stops the machine (R300), and no entry of `SUB` is read before it is written
(R200). -/
def Obligations.StepAnswersAndKeepsInvariant : Prop :=
  ∀ s : State, s.Inv → s.holdsEveryFrame → s.hostInContract → ∃ t, step s = .next t ∧ t.Inv

/-- R38: after reset the configuration registers, and the sizes and orders of R7 beside them, hold the parameters of R7, and no
step changes them. -/
def Obligations.ConfigurationIsFixed : Prop :=
  State.reset.cfg = Config.default ∧ ∀ s t : State, step s = .next t → t.cfg = s.cfg

/-- R27: once StreamInfo has been decoded, however many blocks follow it, and in every state but `IDLE`, the StreamInfo set
changes only by RESET. -/
def Obligations.StreamInfoIsImmutable : Prop :=
  ∀ s t : State, s.Inv → s.si.valid = true ∨ s.state ≠ .idle → step s = .next t →
    t.si = s.si ∨ (t.state = .idle ∧ t.si = State.reset.si)

/-- R33, R36, R306, R334: `OUT`, the two counters and the frame port change only where the command or element ends with
the result FRAME, or, but for the port, by RESET. -/
def Obligations.OutputOnlyOnCommit : Prop :=
  ∀ (i : Instr) (s t : State), exec i s = .next t → t.lastResult ≠ .frame →
    t.frameOut = s.frameOut ∧
    (i ≠ .cmdReset → t.out = s.out ∧ t.framesOk = s.framesOk ∧ t.samplesOut = s.samplesOut)

/-! ### Encoding -/

/-- R80 to R102: for every well-formed instruction, the decoder reads back what the encoder writes, whatever follows. -/
def Obligations.DecodeOfEncode : Prop :=
  ∀ (i : Instr) (rest : Bits), i.wellFormed = true → decode i.position i.align (i.encode ++ rest) = .ok (i, rest)

/-- The other direction (R104): what the decoder reads is a well-formed instruction of the position, and its encoding is
exactly the bits taken; with 32 bits ahead it always reads one. -/
def Obligations.DecodeIsExact : Prop :=
  ∀ (pos : Position) (align : Nat) (bs : Bits), align < 8 →
    (∀ i rest, decode pos align bs = .ok (i, rest) →
      i.wellFormed = true ∧ i.position = pos ∧ i.encode ++ rest = bs) ∧
    (32 ≤ bs.length → ∃ i rest, decode pos align bs = .ok (i, rest))

/-- Words written out bit by bit from the encoding tables (R81, R85, R90, R92, R97, R102). -/
def Obligations.SampleWordsDecode : Prop :=
  decode .host 0 [true, false] = .ok (.cmdPull, []) ∧
  decode .metadata 0 (true :: [false, false, false, false, false, false, false] ++ natToBits 24 34) =
    .ok (.mdStreaminfo true 34, []) ∧
  decode .sync 0
      [true, true, true, true, true, true, true, true, true, true, true, true, true, false, false, true] =
    .ok (.fhBlocking1, []) ∧
  decode .chCode 0 [true, false, true, false] = .ok (.fhCh10, []) ∧
  decode .bpsCode 0 [true, false, false, false] = .ok (.fhBps4, []) ∧
  decode .number 0 [true, true, true, false, false, false, false, true] = .ok (.numLeadE0 1, []) ∧
  decode .subframe 0 [false, false, false, true, false, true, false, false] = .ok (.sfFixed2 false, []) ∧
  decode .subframe 0 [false, true, false, false, false, false, true, true] = .ok (.sfLpc2 true, []) ∧
  decode .residual 0 [false, true, false, false, true, true] = .ok (.resMethod1 3, []) ∧
  decode .part4 0 [true, true, true, true] = .ok (.part4Escape, []) ∧
  decode .footer 0 (natToBits 16 0x14B9) = .ok (.crc16 0x14B9, [])

/-! ### Steps -/

/-- A step runs the instruction it finds: inside a command the element at the cursor; between commands the host's next
command code, taken off the queue, or the byte source it presents; with nothing from the host, nothing changes
(R20, R270, R317). -/
def Obligations.StepRunsTheInstruction : Prop :=
  ∀ s : State,
    (s.seq.pos ≠ .host → ∀ i rest, decodeHere s = .ok (i, rest) → step s = exec i s) ∧
    (s.seq.pos = .host → s.host = [] → step s = .next s) ∧
    (s.seq.pos = .host → ∀ c rest, s.host = .command c :: rest →
      step s = exec (commandOf c.toNat) { s with host := rest }) ∧
    (s.seq.pos = .host → s.state = .idle ∨ s.state = .ready → ∀ answers rest, s.host = .source answers :: rest →
      step s = .next { s with src := answers, host := rest })

/-- Inside a command the sequencer's element has the meaning `exec` gives it, and OPEN and PULL, where they run, are the run
of `step` from their first element until the command has ended (R271, R274, R275): OPEN from its start as it is, PULL after its
steps 3 and 4. Two clauses are the model's choice and no rule's: the run's bound `commandFuel` (log entry 14), and, in the clause
of PULL, `SUB` held as what the current frame has written and what earlier frames left, `sub := []` with `subEarlier` keeping the
rest (log entry 16, a DESIGN CHOICE). -/
def Obligations.CommandRunsItsElements : Prop :=
  (∀ (i : Instr) (s : State), i.position ≠ .host → runElement i s = exec i s) ∧
  (∀ (s : State) (n : Nat), s.seq.pos ≠ .host →
    drain (n + 1) s = match step s with
      | .next t => drain n t
      | .fault f => .fault f
      | .refused r => .refused r) ∧
  (∀ (s : State) (n : Nat), s.seq.pos = .host → drain n s = .next s) ∧
  (∀ s : State, s.seq.pos = .host → s.state = .idle →
    (let u : State :=
      if s.cfg.expectMarker = true then { s with seq.pos := .marker } else { s with md.count := 0, seq.pos := .metadata }
     exec .cmdOpen s = drain (commandFuel u) u)) ∧
  ∀ s : State, s.seq.pos = .host → s.state = .ready → ¬(s.si.total ≠ 0 ∧ s.si.total.toNat ≤ s.samplesOut.toNat) →
    (let u : State :=
      { s with
        bitsLeft := 0, atPullStart := true
        crc8 := 0, crc16 := 0, crc8En := true, crc16En := true
        sub := [], subEarlier := s.sub.over s.subEarlier
        seq.pos := .sync }
     exec .cmdPull s = drain (commandFuel u) u)

/-! ### The bit reader -/

/-- R121, R133, R134: FETCH, for each answer of the byte source. -/
def Obligations.FetchAnswers : Prop :=
  ∀ s : State,
    (∀ b rest, s.src = .byte b :: rest →
      fetch s = .ok ()
        { s with
          src := rest, buf := b, bitsLeft := 8, bytePos := s.bytePos + 1, atPullStart := false
          crc8 := if s.crc8En = true then crc8Step s.crc8 b else s.crc8
          crc16 := if s.crc16En = true then crc16Step s.crc16 b else s.crc16 }) ∧
    (s.src = [] → s.atPullStart = true →
      fetch s = .error .ended
        { s with
          state := .ended, lastResult := .ended
          crc8En := false, crc16En := false, atPullStart := false, seq.pos := .host }) ∧
    (s.src = [] → s.atPullStart = false → fetch s = .error .ended (errorEntry .unexpectedEof 0 0 s)) ∧
    (∀ e rest, s.src = .ioErr e :: rest →
      fetch s = .error .ended (errorEntry .ioError 0 e { s with src := rest }))

/-- R131, R132: the checksum updates as the rules compute them on integers, and the rules' check values. -/
def Obligations.ChecksumSteps : Prop :=
  (∀ (c : BitVec 8) (b : Byte),
    (crc8Step c b).toNat =
      (fun c => if c.testBit 7 then (c * 2 ^^^ 0x07) % 2 ^ 8 else c * 2 % 2 ^ 8)^[8] (c.toNat ^^^ b.toNat)) ∧
  (∀ (c : BitVec 16) (b : Byte),
    (crc16Step c b).toNat =
      (fun c => if c.testBit 15 then (c * 2 ^^^ 0x8005) % 2 ^ 16 else c * 2 % 2 ^ 16)^[8] (c.toNat ^^^ b.toNat * 2 ^ 8)) ∧
  ([0x31, 0x32, 0x33, 0x34, 0x35, 0x36, 0x37, 0x38, 0x39] : List Byte).foldl crc8Step 0 = 0xF4 ∧
  ([0x31, 0x32, 0x33, 0x34, 0x35, 0x36, 0x37, 0x38, 0x39] : List Byte).foldl crc16Step 0 = 0xFEE8

/-- R123, R64: READ_U of a field is its value, the first bit the most significant, and the cursor is after it; from an
aligned cursor the bytes of a field come most significant first. A read past the last bit consumes the bits that are there
and then ends the command as the failed fetch says (R133, R134). -/
def Obligations.ReadUnsignedField : Prop :=
  (∀ (n v : Nat) (rest : Bits) (s : State), v < 2 ^ n → s.stream = natToBits n v ++ rest →
    readU n s = .ok v (s.skip n) ∧ (s.skip n).stream = rest) ∧
  (∀ (bytes : List Byte) (rest : List SrcAnswer) (s : State), s.bitsLeft = 0 → s.src = bytes.map .byte ++ rest →
    readU (8 * bytes.length) s = .ok (bytes.foldl (fun v b => 256 * v + b.toNat) 0) (s.skip (8 * bytes.length)) ∧
    (s.skip (8 * bytes.length)).bytePos = s.bytePos + BitVec.ofNat 64 bytes.length ∧
    (s.skip (8 * bytes.length)).src = rest) ∧
  (∀ (n : Nat) (s : State), s.stream.length < n →
    readU n s = .error .ended
      (let u := s.skip s.stream.length
       match u.src with
       | .ioErr e :: rest => errorEntry .ioError 0 e { u with src := rest }
       | .byte _ :: _ => u
       | [] => if u.atPullStart = true then endOfSequence u else errorEntry .unexpectedEof 0 0 u))

/-- R124: READ_S is READ_U with the sign extended, errors as READ_U; of a two's complement field of n bits it is the
field's value. -/
def Obligations.ReadSignedField : Prop :=
  (∀ (n : Nat) (s : State),
    readS n s =
      match readU n s with
      | .ok v t => .ok (if n = 0 then 0 else if v.testBit (n - 1) then (v : Int) - 2 ^ n else v) t
      | .error e t => .error e t) ∧
  ∀ (n : Nat) (v : Int) (rest : Bits) (s : State), fits n v = true → s.stream = signedBits n v ++ rest →
    readS n s = .ok v (s.skip n) ∧ (s.skip n).stream = rest

/-- R125: READ_UNARY counts the zeros before the one; the first zero past the limit raises the error with nothing after
it consumed; data that ends in the count ends the command as the failed fetch says. -/
def Obligations.ReadUnaryCounts : Prop :=
  ∀ (limit : Int) (k : ErrorKind) (sub : Nat) (rest : Bits) (s : State),
    (∀ q : Nat, (q : Int) ≤ limit ∨ q = 0 → s.stream = unaryBits q ++ rest →
      readUnary limit k sub s = .ok q (s.skip (q + 1)) ∧ (s.skip (q + 1)).stream = rest) ∧
    (s.stream = List.replicate (limit.toNat + 1) false ++ rest →
      readUnary limit k sub s = .error .ended (errorEntry k sub 0 (s.skip (limit.toNat + 1)))) ∧
    (∀ m : Nat, m ≤ limit.toNat → s.stream = List.replicate m false →
      readUnary limit k sub s = .error .ended (s.skip m).noByte)

/-- R121, R62: what moving the cursor writes: the cursor, `AT_PULL_START`, the answers taken, and a checksum only where it
is enabled; `BYTEPOS` counts the bytes taken. -/
def Obligations.CursorFrame : Prop :=
  ∀ (n : Nat) (s : State),
    (let t := s.skip n
     { s with
       buf := t.buf, bitsLeft := t.bitsLeft, bytePos := t.bytePos, atPullStart := t.atPullStart
       crc8 := t.crc8, crc16 := t.crc16, src := t.src } = t ∧
     (s.crc8En = false → t.crc8 = s.crc8) ∧ (s.crc16En = false → t.crc16 = s.crc16) ∧
     (∃ taken : List Byte, s.src = taken.map .byte ++ t.src ∧ t.bytePos = s.bytePos + BitVec.ofNat 64 taken.length ∧
       (s.crc8En = true → t.crc8 = taken.foldl crc8Step s.crc8) ∧
       (s.crc16En = true → t.crc16 = taken.foldl crc16Step s.crc16) ∧
       (t.atPullStart = if taken = [] then s.atPullStart else false)))

/-- R66, R70: an access of the sample RAM: a write and then a read of the same entry gives the value, every other entry
reads as before, nothing else changes, and the entries are the MAX_CHANNELS rows of MAX_BLOCK entries, with R7's values channels 0
to 7 and indexes 0 to 65535. -/
def Obligations.SampleMemory : Prop :=
  ∀ (c i : Nat) (v : Int) (s : State),
    (c < s.cfg.maxChannels.val → i < s.cfg.maxBlock.val → ∃ t,
      writeSample c i v s = .ok () t ∧ { t with sub := s.sub } = s ∧
      readSample c i t = .ok v t ∧
      ∀ c' i', c' < s.cfg.maxChannels.val → i' < s.cfg.maxBlock.val → (c', i') ≠ (c, i) →
        SampleRam.read (sampleKey c' i') t.sub = SampleRam.read (sampleKey c' i') s.sub) ∧
    (¬(c < s.cfg.maxChannels.val ∧ i < s.cfg.maxBlock.val) → writeSample c i v s = .error (.fault .sampleAddress) s ∧
      readSample c i s = .error (.fault .sampleAddress) s)

/-- R32, R306: where a frame begins (PULL's steps 3 and 4), no entry of `SUB` that an earlier frame wrote holds a value for the
rules, `SUB` as a register keeps every entry, and inside a PULL a written entry stands over what an earlier frame left there. -/
def Obligations.FrameBeginsUnwritten : Prop :=
  ∀ s : State, Memory.wf s = true →
    (∀ c i, c < s.cfg.maxChannels.val → i < s.cfg.maxBlock.val →
      readSample c i (beginPull s) = .error (.fault .unwrittenSample) (beginPull s)) ∧
    (∀ key, (beginPull s).subEntry key = s.subEntry key) ∧
    ∀ c i v t, writeSample c i v s = .ok () t →
      t.subEarlier = s.subEarlier ∧ t.subEntry (sampleKey c i) = some v ∧
      ∀ key, key ≠ sampleKey c i → t.subEntry key = s.subEntry key

/-! ### Errors -/

/-- R302, R304, R306, R307, R308: error entry writes `ERR` and `LAST_RESULT`, turns the checksums and `AT_PULL_START` off,
leaves `FAILED` only for an error of OPEN, and keeps everything else; the kinds' codes are 1 to 20 in the table's order. -/
def Obligations.ErrorEntry : Prop :=
  ([.ioError, .unexpectedEof, .invalidSync, .invalidReservedBit, .invalidChannelAssignment, .invalidChecksum,
    .invalidSubframeType, .invalidCodingMethod, .invalidLpcPrecision, .widthOutOfRange, .metadataFormat,
    .invalidBlockSizeCode, .invalidSampleRateCode, .invalidBpsCode, .invalidFrameNumber, .invalidLpcShift,
    .invalidPartition, .valueOutOfRange, .invalidBlockSize, .invalidPadding] : List ErrorKind).map ErrorKind.code =
    [1, 2, 3, 4, 5, 6, 7, 8, 9, 10, 11, 12, 13, 14, 15, 16, 17, 18, 19, 20] ∧
  ∀ (k : ErrorKind) (sub : Nat) (io : BitVec 32) (s : State),
    errorEntry k sub io s =
      { s with
        err :=
          { kind := k.code, sub := BitVec.ofNat 8 sub, bytePos := s.bytePos, bitsLeft := BitVec.ofNat 4 s.bitsLeft,
            ioCode := io }
        lastResult := .error
        crc8En := false
        crc16En := false
        atPullStart := false
        state := if s.seq.pos = .marker ∨ s.seq.pos = .metadata then .failed else s.state
        seq := { s.seq with pos := .host } } ∧
    (raise k sub : M Unit) s = .error .ended (errorEntry k sub 0 s)

/-- R133, R134, R305, R306: an element of one field whose data ends inside the field writes nothing but what the failed
fetch does: its register is not yet written. -/
def Obligations.TruncatedElement : Prop :=
  ∀ (i : Instr) (s : State),
    i.position ∈ [Position.marker, .bsCode, .srCode, .chCode, .number, .numCont, .bs8, .bs16, .sr8, .sr16, .sr16x10, .part4,
      .part5, .esc] →
    s.stream.length < i.encode.length → exec i s = .next (s.skip s.stream.length).noByte

/-! ### Host commands -/

/-- R271, R278, R318: CMD_RESERVED3 always, OPEN outside `IDLE` and PULL in `IDLE` and `FAILED` write only `LAST_RESULT`. -/
def Obligations.RejectedCommands : Prop :=
  ∀ s : State, s.seq.pos = .host →
    exec .cmdReserved3 s = .next { s with lastResult := .rejected } ∧
    (s.state ≠ .idle → exec .cmdOpen s = .next { s with lastResult := .rejected }) ∧
    (s.state = .idle ∨ s.state = .failed → exec .cmdPull s = .next { s with lastResult := .rejected })

/-- R275, R276: the three cases in which PULL gives END, what each writes, and that there is no other. In the third PULL has begun:
the cursor is aligned and the checksums are cleared by R275's steps 3 and 4, and that every entry of `SUB` is now one of an earlier
frame, `sub := []` with `subEarlier` keeping the rest, is the model's choice (log entry 16, a DESIGN CHOICE). -/
def Obligations.PullEndsTheSequence : Prop :=
  ∀ s : State, s.seq.pos = .host →
    (s.state = .ended → exec .cmdPull s = .next { s with lastResult := .ended }) ∧
    (s.state = .ready → s.si.total ≠ 0 → s.si.total.toNat ≤ s.samplesOut.toNat →
      exec .cmdPull s = .next { s with state := .ended, lastResult := .ended }) ∧
    (s.state = .ready → ¬(s.si.total ≠ 0 ∧ s.si.total.toNat ≤ s.samplesOut.toNat) → s.src = [] →
      exec .cmdPull s =
        .next { s with
          state := .ended, lastResult := .ended, bitsLeft := 0
          crc8 := 0, crc16 := 0, crc8En := false, crc16En := false, atPullStart := false
          sub := [], subEarlier := s.sub.over s.subEarlier }) ∧
    (∀ t, s.Inv → exec .cmdPull s = .next t → t.lastResult = .ended →
      t.state = .ended ∧ t.frameOut = s.frameOut ∧
      (s.state = .ended ∨ (s.state = .ready ∧ (s.si.total ≠ 0 ∧ s.si.total.toNat ≤ s.samplesOut.toNat ∨ s.src = []))))

/-- R274, R307: OPEN in `IDLE` always ends, READY with OPENED or FAILED with ERROR, and writes nothing of the frame
registers, `SUB`, `OUT`, the counters or the frame port. -/
def Obligations.OpenAlwaysEnds : Prop :=
  ∀ s : State, s.Inv → s.seq.pos = .host → s.state = .idle → ∃ t,
    exec .cmdOpen s = .next t ∧ t.seq.pos = .host ∧ s.metadataOut <+: t.metadataOut ∧
    { t with
      state := s.state, buf := s.buf, bitsLeft := s.bitsLeft, bytePos := s.bytePos, si := s.si, err := s.err
      lastResult := s.lastResult, md := s.md, seq := s.seq, src := s.src, metadataOut := s.metadataOut } = s ∧
    ((t.state = .ready ∧ t.lastResult = .opened ∧ t.err = s.err ∧ t.si.valid = true ∧ t.md.last = true) ∨
     (t.state = .failed ∧ t.lastResult = .error ∧ t.err.bytePos = t.bytePos ∧ t.err.bitsLeft = BitVec.ofNat 4 t.bitsLeft ∧
      ∃ k : ErrorKind, (k = .ioError ∨ k = .unexpectedEof ∨ k = .metadataFormat) ∧ t.err.kind = k.code))

/-- R140, R145, R155, R156, R157, R280: OPEN of an encoded stream, a StreamInfo block and then raw blocks, the last one
flagged: the StreamInfo registers hold what was encoded, one record per block in stream order, and the cursor is after the
last block. -/
def Obligations.OpenDecodesEncodedMetadata : Prop :=
  ∀ (s : State) (si : StreamInfo) (blocks : List (BitVec 7 × List Byte)) (rest : Bits),
    s.seq.pos = .host → s.state = .idle → s.cfg.expectMarker = true → si.encodable = true →
    (∀ b ∈ blocks, b.1 ≠ 0 ∧ b.2.length < 2 ^ 24) → blocks.length < 2 ^ 32 - 1 →
    (let block := fun (last : Bool) (type : Nat) (len : Nat) (body : Bits) =>
        last :: natToBits 7 type ++ natToBits 24 len ++ body
     let raw := fun (k : Nat) (b : BitVec 7 × List Byte) =>
        block (decide (k + 1 = blocks.length)) b.1.toNat b.2.length (b.2.flatMap byteToBits)
     let bits := natToBits 32 0x664C6143 ++ block blocks.isEmpty 0 34 (streamInfoBits si) ++ (blocks.mapIdx raw).flatten
     s.stream = bits ++ rest → ∃ t,
       exec .cmdOpen s = .next t ∧ t.state = .ready ∧ t.lastResult = .opened ∧ t.si = si ∧ t.stream = rest ∧
       t.md.count = BitVec.ofNat 32 (blocks.length + 1) ∧ t.md.last = true ∧
       t.metadataOut =
         s.metadataOut ++
           { last := blocks.isEmpty, type := 0, length := 34, body := si.recordBody } ::
           blocks.mapIdx fun k b =>
             { last := decide (k + 1 = blocks.length), type := b.1, length := BitVec.ofNat 24 b.2.length, body := .raw b.2 })

/-- R275, R277, R258, R306, R308: PULL in `READY`, with the sample RAM of R7's size, always ends: with a committed frame, with the end of the sequence, or
with an error; what each leaves of the status, the counters, `OUT` and the port. -/
def Obligations.PullAlwaysEnds : Prop :=
  ∀ s : State, s.Inv → s.holdsEveryFrame → s.seq.pos = .host → s.state = .ready → ∃ t,
    exec .cmdPull s = .next t ∧ t.seq.pos = .host ∧
    t.crc8En = false ∧ t.crc16En = false ∧ t.atPullStart = false ∧
    t.cfg = s.cfg ∧ t.si = s.si ∧ t.md = s.md ∧ t.metadataOut = s.metadataOut ∧ t.host = s.host ∧
    ((t.state = .ready ∧ t.lastResult = .frame ∧ t.err = s.err ∧ t.framesOk = s.framesOk + 1 ∧
        t.samplesOut = s.samplesOut + t.fh.blockSize.setWidth 64 ∧
        ∃ r : FrameRecord, t.frameOut = s.frameOut ++ [r] ∧ r.blockSize = t.fh.blockSize ∧ r.channels = t.fh.channels ∧
          r.samples.length = t.fh.channels.toNat ∧
          ∀ c < t.fh.channels.toNat, (r.samples.getD c []).length = t.fh.blockSize.toNat ∧
            SampleRam.Holds t.out c 0 t.fh.blockSize.toNat ((r.samples.getD c []).getD · 0)) ∨
     (t.state = .ended ∧ t.lastResult = .ended ∧ t.err = s.err ∧ t.framesOk = s.framesOk ∧ t.samplesOut = s.samplesOut ∧
        t.out = s.out ∧ t.frameOut = s.frameOut) ∨
     (t.state = .ready ∧ t.lastResult = .error ∧ (∃ k : ErrorKind, t.err.kind = k.code) ∧ t.err.bytePos = t.bytePos ∧
        t.err.bitsLeft = BitVec.ofNat 4 t.bitsLeft ∧ t.framesOk = s.framesOk ∧ t.samplesOut = s.samplesOut ∧
        t.out = s.out ∧ t.frameOut = s.frameOut))

/-! ### Metadata -/

/-- R141: MARKER, and the block counter cleared after it (R140); a stream that ends in it; and OPEN without a marker, whose
first element is a block header. -/
def Obligations.MarkerCheck : Prop :=
  ∀ (m : BitVec 32) (s : State),
    (32 ≤ s.stream.length →
      exec (.marker m) s =
        .next (if m = 0x664C6143 then { s.skip 32 with md.count := 0, seq.pos := .metadata }
               else errorEntry .metadataFormat 2 0 (s.skip 32))) ∧
    (s.stream.length < 32 → exec (.marker m) s = .next (s.skip s.stream.length).noByte) ∧
    (s.seq.pos = .host → s.state = .idle →
      exec .cmdOpen s =
        runCommand
          (if s.cfg.expectMarker = true then { s with seq.pos := .marker }
           else { s with md.count := 0, seq.pos := .metadata }))

/-- R142, R148 to R156, R280: a block of type 1 to 127 after the first is passed out raw, whatever its body. `MD_COUNT`
advances by one; past its top it is some value other than 0 (log entry 4). -/
def Obligations.RawBlockPassesThrough : Prop :=
  ∀ (i : Instr) (last : Bool) (type : BitVec 7) (len : BitVec 24) (body : List Byte) (rest : Bits) (s : State),
    i.rawBlock? = some (last, type, len) → s.md.count ≠ 0 → body.length = len.toNat →
    s.stream = i.encode ++ body.flatMap byteToBits ++ rest →
    (let count : BitVec 32 :=
      if s.md.count + 1 = 0 then BitVec.ofNat 32 ((Config.countPastTop (s.metadataOut.length + 1)).val + 1)
      else s.md.count + 1
     let t : State :=
      { s.skip (32 + 8 * len.toNat) with
        md := { count := count, last := last, type := type, len := len }
        metadataOut := s.metadataOut ++ [{ last := last, type := type, length := len, body := .raw body }] }
     exec i s =
       .next (if last = true then { t with state := .ready, lastResult := .opened, seq.pos := .host }
              else { t with seq.pos := .metadata }))

/-- R83, R145, R280: the StreamInfo block as the first block fills the StreamInfo set and emits its record. -/
def Obligations.StreamInfoBlockDecodes : Prop :=
  ∀ (last : Bool) (si : StreamInfo) (rest : Bits) (s : State),
    si.encodable = true → s.md.count = 0 →
    s.stream = (Instr.mdStreaminfo last 34).encode ++ streamInfoBits si ++ rest →
    (let t : State :=
      { s.skip 304 with
        md := { count := 1, last := last, type := 0, len := 34 }
        si := si
        metadataOut := s.metadataOut ++ [{ last := last, type := 0, length := 34, body := si.recordBody }] }
     exec (.mdStreaminfo last 34) s =
       .next (if last = true then { t with state := .ready, lastResult := .opened, seq.pos := .host }
              else { t with seq.pos := .metadata }))

/-- R143, R146, R147: a first block that is not StreamInfo, a second StreamInfo block and a StreamInfo length other than 34
raise METADATA_FORMAT with their sub-codes before any body byte is read. -/
def Obligations.MetadataFormatErrors : Prop :=
  ∀ s : State, 32 ≤ s.stream.length →
    (∀ i last type len, Instr.rawBlock? i = some (last, type, len) → s.md.count = 0 →
      exec i s =
        .next (errorEntry .metadataFormat 0 0 { s.skip 32 with md.last := last, md.type := type, md.len := len })) ∧
    (∀ last len, s.md.count ≠ 0 →
      exec (.mdStreaminfo last len) s =
        .next (errorEntry .metadataFormat 3 0 { s.skip 32 with md.last := last, md.type := 0, md.len := len })) ∧
    (∀ last len, s.md.count = 0 → len ≠ 34 →
      exec (.mdStreaminfo last len) s =
        .next (errorEntry .metadataFormat 1 0 { s.skip 32 with md.last := last, md.type := 0, md.len := len }))

/-! ### Frame header -/

/-- R171, R172, R173: the sync code, the reserved bit and the blocking bit; a wrong sync is not searched past; and where the
data ends inside the field (R133). -/
def Obligations.SyncAndBlocking : Prop :=
  ∀ s : State,
    (16 ≤ s.stream.length →
      exec .fhBlocking0 s = .next { s.skip 16 with fh.blocking := false, seq.pos := .bsCode } ∧
      exec .fhBlocking1 s = .next { s.skip 16 with fh.blocking := true, seq.pos := .bsCode }) ∧
    (15 ≤ s.stream.length → exec .fhReservedA1 s = .next (errorEntry .invalidReservedBit 0 0 (s.skip 15))) ∧
    (14 ≤ s.stream.length → ∀ sync,
      exec (.fhBadSync sync) s = .next (errorEntry .invalidSync 0 0 (s.skip 14))) ∧
    (∀ i,
      (∃ sync, i = .fhBadSync sync ∧ s.stream.length < 14) ∨ (i = .fhReservedA1 ∧ s.stream.length < 15) ∨
        ((i = .fhBlocking0 ∨ i = .fhBlocking1) ∧ s.stream.length < 16) →
      exec i s = .next (s.skip s.stream.length).noByte)

/-- R174, R175: BS_CODE and SR_CODE, each of its sixteen codes; the reserved and the invalid one are refused once read. -/
def Obligations.BlockSizeAndRateCodes : Prop :=
  ∀ (i : Instr) (k : Nat) (s : State), 4 ≤ s.stream.length →
    (let t : State := { s.skip 4 with fh.bsCode := BitVec.ofNat 4 k }
     i.bsCode? = some k →
       exec i s = .next (if k = 0 then errorEntry .invalidBlockSizeCode 0 0 t else { t with seq.pos := .srCode })) ∧
    (let t : State := { s.skip 4 with fh.srCode := BitVec.ofNat 4 k }
     i.srCode? = some k →
       exec i s = .next (if k = 15 then errorEntry .invalidSampleRateCode 0 0 t else { t with seq.pos := .chCode }))

/-- R177: CH_CODE of the sixteen codes. -/
def Obligations.ChannelCodes : Prop :=
  ∀ (i : Instr) (k : Nat) (s : State), i.chCode? = some k → 4 ≤ s.stream.length →
    (let t : State := { s.skip 4 with fh.chCode := BitVec.ofNat 4 k }
     exec i s = .next (
       if k ≤ 7 then { t with fh.assign := .independent, fh.channels := BitVec.ofNat 4 (k + 1), seq.pos := .bpsCode }
       else if k = 8 then { t with fh.assign := .leftSide, fh.channels := 2, seq.pos := .bpsCode }
       else if k = 9 then { t with fh.assign := .rightSide, fh.channels := 2, seq.pos := .bpsCode }
       else if k = 10 then { t with fh.assign := .middleSide, fh.channels := 2, seq.pos := .bpsCode }
       else errorEntry .invalidChannelAssignment 0 0 t))

/-- R178, R179: BPS_CODE of the eight codes, checked before the reserved bit after it is read; that bit must be 0. They are the
last four bits of their byte (R85), and the cursor is byte-aligned after them. -/
def Obligations.DepthCodes : Prop :=
  ∀ (i : Instr) (k : Nat) (reserved : Bool) (s : State), i.bpsCode? = some (k, reserved) →
    (let t : State := { s.skip 3 with fh.bpsCode := BitVec.ofNat 3 k }
     let u : State :=
      { s.skip 4 with fh.bpsCode := BitVec.ofNat 3 k, fh.bps := BitVec.ofNat 6 (depthOf k s.si.bps) }
     (k = 3 → 3 ≤ s.stream.length → exec i s = .next (errorEntry .invalidBpsCode 0 0 t)) ∧
     (k ≠ 3 → 4 ≤ s.stream.length →
       exec i s = .next (if reserved = true then errorEntry .invalidReservedBit 1 0 u else { u with seq.pos := .number })) ∧
     (s.bitsLeft = 4 → u.bitsLeft = 0) ∧
     (s.stream.length < 3 → exec i s = .next (s.skip s.stream.length).noByte) ∧
     (k ≠ 3 → s.stream.length = 3 →
       exec i s = .next ({ t with fh.bps := BitVec.ofNat 6 (depthOf k s.si.bps) } : State).noByte))

/-- R180, R181: NUMBER's first byte: a one-byte number is written and TRAILING follows, a longer one waits for its bytes,
`10xxxxxx`, `11111111` and a seven-byte frame number are refused. -/
def Obligations.NumberFirstByte : Prop :=
  ∀ s : State, 8 ≤ s.stream.length →
    (∀ i len x, Instr.numberLead? i = some (len, x) → s.fh.bsCode ≠ 0 → s.fh.srCode ≠ 15 →
      exec i s = .next (
        if len = 7 ∧ s.fh.blocking = false then errorEntry .invalidFrameNumber 0 0 (s.skip 8)
        else if len = 1 then ({ s.skip 8 with fh.number := BitVec.ofNat 64 x } : State).afterNumber
        else { s.skip 8 with
          seq.numLeft := BitVec.ofNat 3 (len - 1), seq.numAcc := BitVec.ofNat 36 x, seq.pos := .numCont })) ∧
    (∀ x, exec (.numLead80 x) s = .next (errorEntry .invalidFrameNumber 0 0 (s.skip 8))) ∧
    exec .numLeadFF s = .next (errorEntry .invalidFrameNumber 0 0 (s.skip 8))

/-- R180, R181: a following byte of NUMBER adds its six low bits; the last one writes `FH_NUMBER` and TRAILING follows; a
byte that is not `10xxxxxx` is refused. -/
def Obligations.NumberFollowingByte : Prop :=
  ∀ (c : BitVec 8) (s : State), 8 ≤ s.stream.length → s.seq.numAcc.toNat < 2 ^ 30 → 1 ≤ s.seq.numLeft.toNat →
    s.fh.bsCode ≠ 0 → s.fh.srCode ≠ 15 →
    (let v := s.seq.numAcc.toNat * 64 + c.toNat % 64
     exec (.numContinuation c) s = .next (
       if c.toNat / 64 ≠ 2 then errorEntry .invalidFrameNumber 0 0 (s.skip 8)
       else if s.seq.numLeft = 1 then ({ s.skip 8 with fh.number := BitVec.ofNat 64 v } : State).afterNumber
       else { s.skip 8 with seq.numLeft := s.seq.numLeft - 1, seq.numAcc := BitVec.ofNat 36 v }))

/-- R176, R181, R182: after NUMBER the block size is resolved or its trailing field is read next, then so the sample rate;
the trailing fields: the block size minus one, then the sample rate in units of 1000, 1 and 10 Hz. -/
def Obligations.TrailingFields : Prop :=
  ∀ s : State,
    (s.fh.bsCode ≠ 0 → s.fh.srCode ≠ 15 → resolveBlockSize s = .ok () s.afterNumber) ∧
    (∀ t : BitVec 8, s.fh.srCode ≠ 15 → 8 ≤ s.stream.length →
      exec (.bs8 t) s = .next ({ s.skip 8 with fh.blockSize := BitVec.ofNat 17 (t.toNat + 1) } : State).afterBlockSize) ∧
    (∀ t : BitVec 16, s.fh.srCode ≠ 15 → 16 ≤ s.stream.length →
      exec (.bs16 t) s =
        .next ({ s.skip 16 with fh.blockSize := BitVec.ofNat 17 (t.toNat + 1) } : State).afterBlockSize) ∧
    (∀ t : BitVec 8, 8 ≤ s.stream.length →
      exec (.sr8 t) s = .next { s.skip 8 with fh.rate := BitVec.ofNat 20 (t.toNat * 1000), seq.pos := .crc8 }) ∧
    (∀ t : BitVec 16, 16 ≤ s.stream.length →
      exec (.sr16 t) s = .next { s.skip 16 with fh.rate := BitVec.ofNat 20 t.toNat, seq.pos := .crc8 } ∧
      exec (.sr16x10 t) s = .next { s.skip 16 with fh.rate := BitVec.ofNat 20 (t.toNat * 10), seq.pos := .crc8 })

/-- R129, R183, R184, R200: HEADER_CRC with the accumulator stopped before the byte, then BLOCK_SIZE_LIMIT, then the first
subframe; and data that ends in the byte. -/
def Obligations.HeaderChecksum : Prop :=
  ∀ (crc : BitVec 8) (s : State),
    (s.stream.length < 8 →
      exec (.crc8 crc) s = .next (({ s with crc8En := false } : State).skip s.stream.length).noByte) ∧
    (8 ≤ s.stream.length → s.fh.channels ≠ 0 →
     let t : State := { ({ s with crc8En := false } : State).skip 8 with fh.crc8 := crc }
     let n := s.fh.blockSize.toNat
     exec (.crc8 crc) s = .next (
       if crc ≠ s.crc8 then errorEntry .invalidChecksum 0 0 t
       else if (s.cfg.blockSizeCheck = .max ∨ s.cfg.blockSizeCheck = .minMax) ∧ s.si.maxBlock.toNat < n then
         errorEntry .invalidBlockSize 0 0 t
       else if s.cfg.blockSizeCheck = .minMax ∧ n < s.si.minBlock.toNat then errorEntry .invalidBlockSize 1 0 t
       else t.atSubframe 0))

/-! ### Subframes -/

/-- R201, R202: the subframe's reserved bit, and the reserved types, refused before the wasted-bits flag is read. -/
def Obligations.ReservedSubframes : Prop :=
  ∀ s : State,
    (1 ≤ s.stream.length → exec .sfReserved1 s = .next (errorEntry .invalidReservedBit 2 0 (s.skip 1))) ∧
    (∀ i type, Instr.reservedType? i = some type → 7 ≤ s.stream.length →
      exec i s = .next (errorEntry .invalidSubframeType 0 0 { s.skip 7 with sf.type := BitVec.ofNat 6 type }))

/-- R202, R203, R204: the subframe header of each kind, its order at most the configured one (R7): the type, kind and order, the wasted-bits count k and the width that
is left; a count that leaves no bit is refused at the zero past its limit (or, at a width of 1, after the one that ends it), a
width past MAX_READ_WIDTH after the header. -/
def Obligations.SubframeHeader : Prop :=
  ∀ (type : Nat) (kind : SubframeKind) (order : Nat) (rest : Bits) (s : State),
    (type = 0 ∧ kind = .constant ∧ order = 0 ∨ type = 1 ∧ kind = .verbatim ∧ order = 0 ∨
      (8 ≤ type ∧ type ≤ 8 + s.cfg.maxFixedOrder.val ∧ kind = .fixed ∧ order = type - 8) ∨
      (32 ≤ type ∧ type ≤ 31 + s.cfg.maxLpcOrder.val ∧ kind = .lpc ∧ order = type - 31)) →
    (∀ k, k < s.fullWidthNow ∨ k = 1 ∧ s.fullWidthNow = 1 →
      s.stream = false :: natToBits 6 type ++ decide (0 < k) :: wastedBits k ++ rest →
      (let t : State := { s.skip (8 + k) with sf := s.sf.withHeader type kind order k }
       subframeHeader type (decide (0 < k)) s =
         if 1 ≤ s.fullWidthNow - k ∧ s.fullWidthNow - k ≤ s.cfg.maxReadWidth then .ok () t
         else .error .ended (errorEntry .widthOutOfRange 0 0 t))) ∧
    (∀ z, z = (s.fullWidthNow - 2) + 1 →
      s.stream = false :: natToBits 6 type ++ true :: List.replicate z false ++ rest →
      subframeHeader type true s =
        .error .ended (errorEntry .widthOutOfRange 0 0
          { s.skip (8 + z) with
            sf := { s.sf with type := BitVec.ofNat 6 type, kind := kind, order := BitVec.ofNat 6 order } }))

/-- R200, R205, R217: CONSTANT fills the row with its value, shifted by the wasted bits; then the next channel. -/
def Obligations.ConstantSubframe : Prop :=
  ∀ (k : Nat) (v : Int) (rest : Bits) (s : State),
    (let n := s.fh.blockSize.toNat
     let c := s.sf.ch.toNat
     let w := s.fullWidthNow - k
     let i := Instr.sfConstant (decide (0 < k))
     k < s.fullWidthNow → w ≤ s.cfg.maxReadWidth → c < s.cfg.maxChannels.val → n ≤ s.cfg.maxBlock.val → fits w v = true →
     s.stream = i.encode ++ wastedBits k ++ signedBits w v ++ rest → ∃ t,
       { t with sub := s.sub } = { s.skip (8 + k + w) with sf := s.sf.withHeader 0 .constant 0 k } ∧
       SampleRam.Holds t.sub c 0 n (fun _ => v * 2 ^ k) ∧ SampleRam.SameBut s.sub t.sub c 0 n ∧
       exec i s = outcome (startChannel (c + 1)) t ∧
       (c + 1 < s.fh.channels.toNat → exec i s = .next (t.atSubframe (c + 1))))

/-- R200, R206, R217: VERBATIM fills the row with its values, shifted by the wasted bits; then the next channel. -/
def Obligations.VerbatimSubframe : Prop :=
  ∀ (k : Nat) (vs : List Int) (rest : Bits) (s : State),
    (let n := s.fh.blockSize.toNat
     let c := s.sf.ch.toNat
     let w := s.fullWidthNow - k
     let i := Instr.sfVerbatim (decide (0 < k))
     k < s.fullWidthNow → w ≤ s.cfg.maxReadWidth → c < s.cfg.maxChannels.val → n ≤ s.cfg.maxBlock.val →
     vs.length = n → (∀ v ∈ vs, fits w v = true) →
     s.stream = i.encode ++ wastedBits k ++ vs.flatMap (signedBits w) ++ rest → ∃ t,
       { t with sub := s.sub } = { s.skip (8 + k + n * w) with sf := s.sf.withHeader 1 .verbatim 0 k } ∧
       SampleRam.Holds t.sub c 0 n (fun j => vs.getD j 0 * 2 ^ k) ∧ SampleRam.SameBut s.sub t.sub c 0 n ∧
       exec i s = outcome (startChannel (c + 1)) t ∧
       (c + 1 < s.fh.channels.toNat → exec i s = .next (t.atSubframe (c + 1))))

/-- R207: FIXED of each order up to the configured one reads its header and its warmup samples into the row; then its residual.
An order past it is refused as a reserved type is, which is the model's choice (log entry 7). -/
def Obligations.FixedWarmup : Prop :=
  ∀ (i : Instr) (p k : Nat) (warm : List Int) (rest : Bits) (s : State),
    (i.fixedOrder? = some (p, decide (0 < k)) → s.cfg.maxFixedOrder.val < p → 7 ≤ s.stream.length →
      exec i s = .next (errorEntry .invalidSubframeType 0 0 { s.skip 7 with sf.type := BitVec.ofNat 6 (8 + p) })) ∧
    (let c := s.sf.ch.toNat
     let w := s.fullWidthNow - k
     i.fixedOrder? = some (p, decide (0 < k)) → p ≤ s.cfg.maxFixedOrder.val → k < s.fullWidthNow → w ≤ s.cfg.maxReadWidth →
     c < s.cfg.maxChannels.val → p ≤ s.cfg.maxBlock.val →
     warm.length = p → (∀ v ∈ warm, fits w v = true) →
     s.stream = i.encode ++ wastedBits k ++ warm.flatMap (signedBits w) ++ rest → ∃ t,
       exec i s = .next t ∧
       { t with sub := s.sub } =
         { s.skip (8 + k + p * w) with sf := s.sf.withHeader (8 + p) .fixed p k, seq.pos := .residual } ∧
       SampleRam.Holds t.sub c 0 p (warm.getD · 0) ∧ SampleRam.SameBut s.sub t.sub c 0 p)

/-- R213, R214: LPC of each order up to the configured one reads its header, its warmup samples, the precision, the shift and the coefficients; the
coefficients from the order on keep their values; then its residual. An order past the configured one is refused as a reserved type
is, which is the model's choice (log entry 7). -/
def Obligations.LpcHeaderAndCoefficients : Prop :=
  ∀ (i : Instr) (p k prec shift : Nat) (warm coefs : List Int) (rest : Bits) (s : State),
    (i.lpcOrder? = some (p, decide (0 < k)) → s.cfg.maxLpcOrder.val < p → 7 ≤ s.stream.length →
      exec i s = .next (errorEntry .invalidSubframeType 0 0 { s.skip 7 with sf.type := BitVec.ofNat 6 (31 + p) })) ∧
    (let c := s.sf.ch.toNat
     let w := s.fullWidthNow - k
     i.lpcOrder? = some (p, decide (0 < k)) → p ≤ s.cfg.maxLpcOrder.val → k < s.fullWidthNow → w ≤ s.cfg.maxReadWidth →
     c < s.cfg.maxChannels.val → p ≤ s.cfg.maxBlock.val →
     warm.length = p → (∀ v ∈ warm, fits w v = true) →
     1 ≤ prec → prec ≤ 15 → prec ≤ s.cfg.maxReadWidth → shift ≤ 15 →
     coefs.length = p → (∀ q ∈ coefs, fits prec q = true) →
     s.stream =
       i.encode ++ wastedBits k ++ warm.flatMap (signedBits w) ++ natToBits 4 (prec - 1) ++ natToBits 5 shift ++
         coefs.flatMap (signedBits prec) ++ rest → ∃ t,
       exec i s = .next t ∧
       { t with sub := s.sub, lpc.qlp := s.lpc.qlp } =
         { s.skip (8 + k + p * w + 9 + p * prec) with
           sf := s.sf.withHeader (31 + p) .lpc p k
           lpc.prec := BitVec.ofNat 5 prec
           lpc.shift := BitVec.ofNat 5 shift
           seq.pos := .residual } ∧
       SampleRam.Holds t.sub c 0 p (warm.getD · 0) ∧ SampleRam.SameBut s.sub t.sub c 0 p ∧
       (∀ j < p, (t.lpc.qlp[j]?.getD 0).toInt = coefs.getD j 0) ∧
       ∀ j, p ≤ j → t.lpc.qlp[j]? = s.lpc.qlp[j]?)

/-! ### Residual -/

/-- R135, R213, R234, R235: what the LPC header and a partition refuse as soon as it is read: the precision code 15, a
negative shift, and a precision, Rice parameter or raw width past MAX_READ_WIDTH. -/
def Obligations.LpcAndPartitionErrors : Prop :=
  ∀ s : State,
    (∀ (code shift : Nat) (rest : Bits), code < 16 →
      (code = 15 → s.stream = natToBits 4 code ++ rest →
        lpcHeader s = .error .ended (errorEntry .invalidLpcPrecision 0 0 (s.skip 4))) ∧
      (code < 15 → s.cfg.maxReadWidth < code + 1 → s.stream = natToBits 4 code ++ rest →
        lpcHeader s =
          .error .ended (errorEntry .widthOutOfRange 3 0 { s.skip 4 with lpc.prec := BitVec.ofNat 5 (code + 1) })) ∧
      (code < 15 → code + 1 ≤ s.cfg.maxReadWidth → 16 ≤ shift → shift < 32 →
        s.stream = natToBits 4 code ++ natToBits 5 shift ++ rest →
        lpcHeader s =
          .error .ended (errorEntry .invalidLpcShift 0 0 { s.skip 9 with lpc.prec := BitVec.ofNat 5 (code + 1) }))) ∧
    (∀ i width k, Instr.riceParameter? i = some (width, k) → s.cfg.maxReadWidth < k → width ≤ s.stream.length →
      exec i s =
        .next (errorEntry .widthOutOfRange 2 0 { s.skip width with res.param := BitVec.ofNat 5 k })) ∧
    (∀ b : BitVec 5, s.cfg.maxReadWidth < b.toNat → 5 ≤ s.stream.length →
      exec (.esc b) s = .next (errorEntry .widthOutOfRange 1 0 { s.skip 5 with res.escBits := b }))

/-- R231, R232: the coding method, refused before the partition order is read, and the partition check; where the data ends
before or inside the partition order, the method is written. -/
def Obligations.ResidualHeader : Prop :=
  ∀ s : State,
    (∀ (porder : BitVec 4) (m : Nat), m = 0 ∨ m = 1 → 6 ≤ s.stream.length →
      (let n := s.fh.blockSize.toNat
       let t : State :=
        { s.skip 6 with res.method := BitVec.ofNat 2 m, res.pw := BitVec.ofNat 3 (4 + m), res.porder := porder }
       exec (if m = 0 then .resMethod0 porder else .resMethod1 porder) s = .next (
         if n % 2 ^ porder.toNat ≠ 0 then errorEntry .invalidPartition 0 0 t
         else if n / 2 ^ porder.toNat < s.sf.order.toNat then errorEntry .invalidPartition 1 0 t
         else { t with res.part := 0, seq.pos := if m = 0 then .part4 else .part5 }))) ∧
    (∀ (porder : BitVec 4) (m : Nat), m = 0 ∨ m = 1 → 2 ≤ s.stream.length → s.stream.length < 6 →
      exec (if m = 0 then .resMethod0 porder else .resMethod1 porder) s =
        .next
          ({ s.skip s.stream.length with
            res.method := BitVec.ofNat 2 m, res.pw := BitVec.ofNat 3 (4 + m) } : State).noByte) ∧
    (∀ x : BitVec 1, 2 ≤ s.stream.length →
      exec (.resMethod2To3 x) s =
        .next (errorEntry .invalidCodingMethod 0 0 { s.skip 2 with res.method := BitVec.ofNat 2 (2 + x.toNat) }))

/-- R230, R233, R234, R236: a partition with Rice parameter k puts its values into the row at its place; then the next
partition, or after the last one the predictor. -/
def Obligations.RicePartition : Prop :=
  ∀ (i : Instr) (width k : Nat) (vs : List Int) (rest : Bits) (s : State),
    (let n := s.fh.blockSize.toNat / 2 ^ s.res.porder.toNat
     let j := s.res.part.toNat
     let p := s.sf.order.toNat
     let start := if j = 0 then p else j * n
     let c := s.sf.ch.toNat
     i.riceParameter? = some (width, k) → i.wellFormed = true → k ≤ s.cfg.maxReadWidth → c < s.cfg.maxChannels.val →
     vs.length = (if j = 0 then n - p else n) → start + vs.length ≤ s.cfg.maxBlock.val →
     (∀ v ∈ vs, -(2 ^ 31 : Int) ≤ v ∧ v ≤ 2 ^ 31 - 1) →
     s.stream = i.encode ++ vs.flatMap (riceBits k) ++ rest → ∃ t,
       { t with sub := s.sub } =
         { s.skip (width + (vs.flatMap (riceBits k)).length) with res.param := BitVec.ofNat 5 k } ∧
       SampleRam.Holds t.sub c start (start + vs.length) (fun x => vs.getD (x - start) 0) ∧
       SampleRam.SameBut s.sub t.sub c start (start + vs.length) ∧
       (j + 1 < 2 ^ s.res.porder.toNat →
         exec i s =
           .next { t with
             res.part := BitVec.ofNat 16 (j + 1)
             seq.pos := if s.res.method = 0 then .part4 else .part5 }) ∧
       (2 ^ s.res.porder.toNat ≤ j + 1 → exec i s = outcome reconstructSubframe t))

/-- R234, R235: the escape value, and an escaped partition of raw width b, whose values are b-bit fields, or 0 without a
bit where b is 0. -/
def Obligations.EscapedPartition : Prop :=
  ∀ s : State,
    (4 ≤ s.stream.length → exec .part4Escape s = .next { s.skip 4 with res.param := 15, seq.pos := .esc }) ∧
    (5 ≤ s.stream.length → exec .part5Escape s = .next { s.skip 5 with res.param := 31, seq.pos := .esc }) ∧
    ∀ (b : BitVec 5) (vs : List Int) (rest : Bits),
      (let n := s.fh.blockSize.toNat / 2 ^ s.res.porder.toNat
       let j := s.res.part.toNat
       let p := s.sf.order.toNat
       let start := if j = 0 then p else j * n
       let c := s.sf.ch.toNat
       b.toNat ≤ s.cfg.maxReadWidth → c < s.cfg.maxChannels.val → vs.length = (if j = 0 then n - p else n) →
       start + vs.length ≤ s.cfg.maxBlock.val →
       (∀ v ∈ vs, fits b.toNat v = true) →
       s.stream = natToBits 5 b.toNat ++ vs.flatMap (signedBits b.toNat) ++ rest → ∃ t,
         { t with sub := s.sub } = { s.skip (5 + vs.length * b.toNat) with res.escBits := b } ∧
         SampleRam.Holds t.sub c start (start + vs.length) (fun x => vs.getD (x - start) 0) ∧
         SampleRam.SameBut s.sub t.sub c start (start + vs.length) ∧
         (j + 1 < 2 ^ s.res.porder.toNat →
           exec (.esc b) s =
             .next { t with
               res.part := BitVec.ofNat 16 (j + 1)
               seq.pos := if s.res.method = 0 then .part4 else .part5 }) ∧
         (2 ^ s.res.porder.toNat ≤ j + 1 → exec (.esc b) s = outcome reconstructSubframe t))

/-- R236, R239: every 32-bit value read back from its Rice codeword, for every parameter up to 30, and the error at the
first zero past the limit. -/
def Obligations.RiceRoundTrip : Prop :=
  ∀ (k : Nat) (rest : Bits) (s : State), k ≤ 30 →
    (∀ v : Int, -(2 ^ 31 : Int) ≤ v → v ≤ 2 ^ 31 - 1 → s.stream = riceBits k v ++ rest →
      readRice k s = .ok v (s.skip (riceBits k v).length) ∧ (s.skip (riceBits k v).length).stream = rest) ∧
    (s.stream = List.replicate (2 ^ (32 - k)) false ++ rest →
      readRice k s = .error .ended (errorEntry .valueOutOfRange 1 0 (s.skip (2 ^ (32 - k)))))

/-- R237: FOLD maps even u to u / 2 and odd u to -(u + 1) / 2, the naturals one to one onto the integers. -/
def Obligations.FoldIsABijection : Prop :=
  (∀ u : Nat, fold (2 * u) = u ∧ fold (2 * u + 1) = -((u : Int) + 1)) ∧
  (∀ v : Int, fold (unfold v) = v) ∧ (∀ u : Nat, unfold (fold u) = u) ∧
  (∀ u : Nat, 0 ≤ fold u ↔ u % 2 = 0) ∧ (∀ u : Nat, u < 2 ^ 32 → -(2 ^ 31 : Int) ≤ fold u ∧ fold u ≤ 2 ^ 31 - 1)

/-! ### Prediction -/

/-- R207 to R212, R216, R217: the fixed predictor of each order turns the row's residuals into the samples x, each
prediction made of the samples before it, then the wasted-bits shift and the next channel. -/
def Obligations.FixedPrediction : Prop :=
  ∀ (e x : Nat → Int) (s : State),
    (let n := s.fh.blockSize.toNat
     let c := s.sf.ch.toNat
     let p := s.sf.order.toNat
     s.sf.kind = .fixed → p ≤ 4 → p ≤ n → c < s.cfg.maxChannels.val → n ≤ s.cfg.maxBlock.val → SampleRam.Holds s.sub c 0 n e →
     (∀ i < p, x i = e i) → (∀ i < n, p ≤ i → x i = fixedPrediction p x i + e i) →
     (s.cfg.rangeCheck = true → ∀ i < n, p ≤ i → inRange s.sf.w.toNat (x i) = true) → ∃ t,
       { t with sub := s.sub } = s ∧ SampleRam.Holds t.sub c 0 n (fun i => x i * 2 ^ s.sf.wasted.toNat) ∧
       SampleRam.SameBut s.sub t.sub c 0 n ∧ reconstructSubframe s = startChannel (c + 1) t ∧
       (c + 1 < s.fh.channels.toNat → outcome reconstructSubframe s = .next (t.atSubframe (c + 1))))

/-- R215, R216, R217: the LPC predictor turns the row's residuals into the samples x; the newest sample is multiplied by
`QLP[0]`, and the shift rounds toward minus infinity. -/
def Obligations.LpcPrediction : Prop :=
  ∀ (e x : Nat → Int) (s : State),
    (let n := s.fh.blockSize.toNat
     let c := s.sf.ch.toNat
     let p := s.sf.order.toNat
     s.sf.kind = .lpc → 1 ≤ p → p ≤ 32 → p ≤ n → c < s.cfg.maxChannels.val → n ≤ s.cfg.maxBlock.val →
     SampleRam.Holds s.sub c 0 n e →
     (∀ i < p, x i = e i) → (∀ i < n, p ≤ i → x i = lpcPrediction s.lpc p x i + e i) →
     (s.cfg.rangeCheck = true → ∀ i < n, p ≤ i → inRange s.sf.w.toNat (x i) = true) → ∃ t,
       { t with sub := s.sub } = s ∧ SampleRam.Holds t.sub c 0 n (fun i => x i * 2 ^ s.sf.wasted.toNat) ∧
       SampleRam.SameBut s.sub t.sub c 0 n ∧ reconstructSubframe s = startChannel (c + 1) t ∧
       (c + 1 < s.fh.channels.toNat → outcome reconstructSubframe s = .next (t.atSubframe (c + 1))))

/-- R216: the first predicted sample outside the subframe width ends the PULL; the samples before it are in the row, the
residuals from it on stand there, and no other entry changes. -/
def Obligations.PredictionRangeError : Prop :=
  ∀ (e x : Nat → Int) (m : Nat) (s : State),
    (let n := s.fh.blockSize.toNat
     let c := s.sf.ch.toNat
     let p := s.sf.order.toNat
     let prediction := if s.sf.kind = .fixed then fixedPrediction p else lpcPrediction s.lpc p
     s.sf.kind = .fixed ∧ p ≤ 4 ∨ s.sf.kind = .lpc ∧ p ≤ 32 → c < s.cfg.maxChannels.val → n ≤ s.cfg.maxBlock.val →
     SampleRam.Holds s.sub c 0 n e →
     (∀ i < p, x i = e i) → (∀ i < n, p ≤ i → x i = prediction x i + e i) → s.cfg.rangeCheck = true →
     p ≤ m → m < n → (∀ i < m, p ≤ i → inRange s.sf.w.toNat (x i) = true) → inRange s.sf.w.toNat (x m) = false → ∃ t,
       { t with sub := s.sub } = s ∧ SampleRam.Holds t.sub c 0 m x ∧ SampleRam.Holds t.sub c m n e ∧
       SampleRam.SameBut s.sub t.sub c 0 n ∧
       reconstructSubframe s = .error .ended (errorEntry .valueOutOfRange 0 0 t))

/-! ### Channels, footer and commit -/

/-- R250 to R255: after the last subframe the channels are reconstructed in place, as the assignment says, and every output
value must fit the frame's bits per sample. -/
def Obligations.ChannelReconstruction : Prop :=
  ∀ (f : Nat → Nat → Int) (s : State),
    (let n := s.fh.blockSize.toNat
     let channels := s.fh.channels.toNat
     let g := decorrelated s.fh.assign f
     channels ≤ s.cfg.maxChannels.val → n ≤ s.cfg.maxBlock.val → (s.fh.assign ≠ .independent → channels = 2) →
     (∀ c < channels, SampleRam.Holds s.sub c 0 n (f c)) → ∃ t,
       { t with sub := s.sub } = s ∧ (∀ c < channels, SampleRam.Holds t.sub c 0 n (g c)) ∧
       (∀ key, (∀ c < channels, ∀ i < n, key ≠ sampleKey c i) → SampleRam.read key t.sub = SampleRam.read key s.sub) ∧
       ((s.cfg.rangeCheck = true → ∀ c < channels, ∀ i < n, inRange s.fh.bps.toNat (g c i) = true) →
         outcome (startChannel channels) s = .next { t with seq.pos := .pad }) ∧
       (s.cfg.rangeCheck = true → (∃ c < channels, ∃ i < n, inRange s.fh.bps.toNat (g c i) = false) →
         outcome (startChannel channels) s = .next (errorEntry .valueOutOfRange 2 0 t)))

/-- R254: mid and side of any two values give the two values back. -/
def Obligations.MidSideIsExact : Prop :=
  ∀ (left right : Int) (i : Nat),
    (let f : Nat → Nat → Int := fun c _ => if c = 0 then Int.fdiv (left + right) 2 else left - right
     decorrelated .middleSide f 0 i = left ∧ decorrelated .middleSide f 1 i = right) ∧
    (let mid := Int.fdiv (left + right) 2
     let side := left - right
     asr (combined mid side + side) 1 = left ∧ asr (combined mid side - side) 1 = right)

/-- R127, R256: PAD takes the bits of the byte already fetched, no byte is fetched, and with PADDING_CHECK a 1 is refused. -/
def Obligations.PaddingCheck : Prop :=
  ∀ s : State,
    (s.seq.pos = .pad → s.bitsLeft < 8 → step s = exec (.pad (natToBits s.bitsLeft s.buf.toNat)) s) ∧
    ∀ bits : Bits,
      exec (.pad bits) s = .next (
        if s.cfg.paddingCheck = true ∧ true ∈ bits then errorEntry .invalidPadding 0 0 { s with bitsLeft := 0 }
        else { s with bitsLeft := 0, seq.pos := .footer })

/-- R130, R186, R257, R258, R281: the footer, with the accumulator stopped before it; a mismatch outputs nothing; a match
commits the frame: `OUT`, the record, the counters and the result, and the exit of the PULL; data that ends in the footer. -/
def Obligations.FooterAndCommit : Prop :=
  ∀ (crc : BitVec 16) (s : State),
    (s.stream.length < 16 →
      exec (.crc16 crc) s = .next (({ s with crc16En := false } : State).skip s.stream.length).noByte) ∧
    (16 ≤ s.stream.length →
     let u : State := ({ s with crc16En := false } : State).skip 16
     let n := s.fh.blockSize.toNat
     let channels := s.fh.channels.toNat
     (crc ≠ s.crc16 → exec (.crc16 crc) s = .next (errorEntry .invalidChecksum 1 0 u)) ∧
     (crc = s.crc16 → channels ≤ s.cfg.maxChannels.val → n ≤ s.cfg.maxBlock.val → ∀ f : Nat → Nat → Int,
       (∀ c < channels, SampleRam.Holds s.sub c 0 n (f c)) → ∃ t,
         exec (.crc16 crc) s = .next t ∧
         (∀ c < channels, SampleRam.Holds t.out c 0 n (f c)) ∧
         (∀ key, (∀ c < channels, ∀ i < n, key ≠ sampleKey c i) →
           SampleRam.read key t.out = SampleRam.read key s.out) ∧
         { t with out := s.out } =
           { u with
             crc8En := false
             atPullStart := false
             framesOk := s.framesOk + 1
             samplesOut := s.samplesOut + BitVec.ofNat 64 n
             lastResult := .frame
             seq.pos := .host
             frameOut :=
               s.frameOut ++
                 [{ blocking := s.fh.blocking
                    number :=
                      if s.fh.blocking = true then .sampleNumber s.fh.number
                      else .frameNumber (s.fh.number.setWidth 32)
                    blockSize := s.fh.blockSize
                    sampleRate := s.fh.rate
                    channels := s.fh.channels
                    assignment := s.fh.assign
                    bitsPerSample := s.fh.bps
                    crc8 := s.fh.crc8
                    crc16 := crc
                    samples := (List.range channels).map fun c => (List.range n).map (f c) }] }))

/-! ### A whole frame -/

/-- R170, R200, R206, R256 to R258, R275, R281: PULL of a frame of independent VERBATIM channels, with the checksums the
rules compute over its bytes, commits it: the record and `OUT` hold exactly the samples that were written, and the cursor is
after the footer. -/
def Obligations.PullDecodesVerbatimFrame : Prop :=
  ∀ (s : State) (rows : List (List Int)) (x : BitVec 7) (header body : List Byte) (pad : Bits) (rest : List SrcAnswer),
    (let n := (rows.getD 0 []).length
     let w := s.si.bps.toNat
     let crc8 := header.foldl crc8Step 0
     let crc16 := (header ++ [crc8] ++ body).foldl crc16Step 0
     s.seq.pos = .host → s.state = .ready → s.si.total = 0 →
     1 ≤ rows.length → rows.length ≤ s.cfg.maxChannels.val → 1 ≤ n → n ≤ s.cfg.maxBlock.val → n ≤ s.si.maxBlock.toNat →
     (s.cfg.blockSizeCheck = .minMax → s.si.minBlock.toNat ≤ n) →
     1 ≤ w → w ≤ 32 → w ≤ s.cfg.maxReadWidth →
     (∀ row ∈ rows, row.length = n ∧ ∀ v ∈ row, fits w v = true) →
     header.flatMap byteToBits =
       natToBits 16 0xFFF8 ++ natToBits 4 7 ++ natToBits 4 0 ++ natToBits 4 (rows.length - 1) ++ natToBits 4 0 ++
         natToBits 8 x.toNat ++ natToBits 16 (n - 1) →
     body.flatMap byteToBits = rows.flatMap (fun row => natToBits 8 2 ++ row.flatMap (signedBits w)) ++ pad →
     pad.length < 8 → (∀ b ∈ pad, b = false) →
     s.src =
       (header ++ [crc8] ++ body).map .byte ++
         [.byte (crc16.extractLsb' 8 8), .byte (crc16.extractLsb' 0 8)] ++ rest → ∃ t,
       exec .cmdPull s = .next t ∧ t.state = .ready ∧ t.lastResult = .frame ∧
       t.framesOk = s.framesOk + 1 ∧ t.samplesOut = s.samplesOut + BitVec.ofNat 64 n ∧
       t.src = rest ∧ t.bitsLeft = 0 ∧
       (∀ c < rows.length, SampleRam.Holds t.out c 0 n ((rows.getD c []).getD · 0)) ∧
       t.frameOut =
         s.frameOut ++
           [{ blocking := false
              number := .frameNumber (x.setWidth 32)
              blockSize := BitVec.ofNat 17 n
              sampleRate := s.si.rate
              channels := BitVec.ofNat 4 rows.length
              assignment := .independent
              bitsPerSample := s.si.bps
              crc8 := crc8
              crc16 := crc16
              samples := rows }])
end

