-- ==== Sys2Proof/Laws/Monad.lean ====
section
/-!
SUPPORT. How an operation of `M` runs: sequencing, and the plain operations, each said once.
-/

namespace Sys2Proof.Machine

/-- Sequencing: the second operation runs in the state the first leaves, and not at all after a stop (R301). -/
theorem bind_run {α β : Type} (x : M α) (f : α → M β) (s : State) :
    (x >>= f) s = match x s with
      | .ok a t => f a t
      | .error e t => .error e t := by
  change EStateM.bind x f s = _
  unfold EStateM.bind
  cases x s <;> rfl

theorem bind_ok {α β : Type} {x : M α} {f : α → M β} {s t : State} {a : α} (h : x s = .ok a t) :
    (x >>= f) s = f a t := by
  rw [bind_run, h]

theorem bind_error {α β : Type} {x : M α} {f : α → M β} {s t : State} {e : Stop} (h : x s = .error e t) :
    (x >>= f) s = .error e t := by
  rw [bind_run, h]

/-- Everything a sequence can answer with a value. -/
theorem bind_eq_ok {α β : Type} {x : M α} {f : α → M β} {s u : State} {b : β} :
    (x >>= f) s = .ok b u ↔ ∃ a t, x s = .ok a t ∧ f a t = .ok b u := by
  rw [bind_run]
  constructor
  · intro h
    split at h
    · exact ⟨_, _, ‹_›, h⟩
    · cases h
  · rintro ⟨a, t, h, h'⟩
    rw [h]
    exact h'

/-- Everything a sequence can stop with. -/
theorem bind_eq_error {α β : Type} {x : M α} {f : α → M β} {s u : State} {e : Stop} :
    (x >>= f) s = .error e u ↔ x s = .error e u ∨ ∃ a t, x s = .ok a t ∧ f a t = .error e u := by
  rw [bind_run]
  constructor
  · intro h
    split at h
    · exact .inr ⟨_, _, ‹_›, h⟩
    · cases h
      exact .inl ‹_›
  · rintro (h | ⟨a, t, h, h'⟩)
    · rw [h]
    · rw [h]
      exact h'

@[simp] theorem pure_run {α : Type} (a : α) (s : State) : (pure a : M α) s = .ok a s := rfl

@[simp] theorem update_run (f : State → State) (s : State) : update f s = .ok () (f s) := rfl

@[simp] theorem ask_run {α : Type} (f : State → α) (s : State) : ask f s = .ok (f s) s := rfl

@[simp] theorem crash_run {α : Type} (f : Fault) (s : State) : (crash f : M α) s = .error (.fault f) s := rfl

@[simp] theorem finish_run {α : Type} (f : State → State) (s : State) : (finish f : M α) s = .error .ended (f s) := rfl

@[simp] theorem raise_run {α : Type} (k : ErrorKind) (sub : Nat) (s : State) :
    (raise k sub : M α) s = .error .ended (errorEntry k sub 0 s) := rfl

@[simp] theorem goto_run (p : Position) (s : State) : goto p s = .ok () { s with seq.pos := p } := rfl

theorem raiseIf_run (c : Bool) (k : ErrorKind) (sub : Nat) (s : State) :
    raiseIf c k sub s = if c then .error .ended (errorEntry k sub 0 s) else .ok () s := by
  cases c <;> rfl

theorem outcome_ok {m : M Unit} {s t : State} (h : m s = .ok () t) : outcome m s = .next t := by
  simp [outcome, h]

theorem outcome_ended {m : M Unit} {s t : State} (h : m s = .error .ended t) : outcome m s = .next t := by
  simp [outcome, h]

/-- An operation's step is a next state exactly when the operation answers, or ends the command. -/
theorem outcome_eq_next {m : M Unit} {s t : State} :
    outcome m s = .next t ↔ m s = .ok () t ∨ m s = .error .ended t := by
  unfold outcome
  split <;> simp_all

theorem outcome_eq_fault {m : M Unit} {s : State} {f : Fault} :
    outcome m s = .fault f ↔ ∃ t, m s = .error (.fault f) t := by
  unfold outcome
  split <;> simp_all

theorem outcome_ne_refused {m : M Unit} {s : State} {r : Refusal} : outcome m s ≠ .refused r := by
  unfold outcome
  split <;> simp

end Sys2Proof.Machine
end

