-- ==== Sys2Proof/Laws/State.lean ====
section
/-!
SUPPORT. What each named update of the state does to each field, true by unfolding, for `simp`.
-/

set_option Elab.async false

namespace Sys2Proof.Machine

/-! ### `exitCommand` -/

@[simp] theorem exitCommand_cfg (s : State) : (exitCommand s).cfg = s.cfg := rfl

@[simp] theorem exitCommand_state (s : State) : (exitCommand s).state = s.state := rfl

@[simp] theorem exitCommand_buf (s : State) : (exitCommand s).buf = s.buf := rfl

@[simp] theorem exitCommand_bitsLeft (s : State) : (exitCommand s).bitsLeft = s.bitsLeft := rfl

@[simp] theorem exitCommand_bytePos (s : State) : (exitCommand s).bytePos = s.bytePos := rfl

@[simp] theorem exitCommand_crc8 (s : State) : (exitCommand s).crc8 = s.crc8 := rfl

@[simp] theorem exitCommand_crc16 (s : State) : (exitCommand s).crc16 = s.crc16 := rfl

@[simp] theorem exitCommand_si (s : State) : (exitCommand s).si = s.si := rfl

@[simp] theorem exitCommand_fh (s : State) : (exitCommand s).fh = s.fh := rfl

@[simp] theorem exitCommand_sf (s : State) : (exitCommand s).sf = s.sf := rfl

@[simp] theorem exitCommand_lpc (s : State) : (exitCommand s).lpc = s.lpc := rfl

@[simp] theorem exitCommand_res (s : State) : (exitCommand s).res = s.res := rfl

@[simp] theorem exitCommand_sub (s : State) : (exitCommand s).sub = s.sub := rfl

@[simp] theorem exitCommand_subEarlier (s : State) : (exitCommand s).subEarlier = s.subEarlier := rfl

@[simp] theorem exitCommand_out (s : State) : (exitCommand s).out = s.out := rfl

@[simp] theorem exitCommand_err (s : State) : (exitCommand s).err = s.err := rfl

@[simp] theorem exitCommand_lastResult (s : State) : (exitCommand s).lastResult = s.lastResult := rfl

@[simp] theorem exitCommand_framesOk (s : State) : (exitCommand s).framesOk = s.framesOk := rfl

@[simp] theorem exitCommand_samplesOut (s : State) : (exitCommand s).samplesOut = s.samplesOut := rfl

@[simp] theorem exitCommand_md (s : State) : (exitCommand s).md = s.md := rfl

@[simp] theorem exitCommand_src (s : State) : (exitCommand s).src = s.src := rfl

@[simp] theorem exitCommand_host (s : State) : (exitCommand s).host = s.host := rfl

@[simp] theorem exitCommand_metadataOut (s : State) : (exitCommand s).metadataOut = s.metadataOut := rfl

@[simp] theorem exitCommand_frameOut (s : State) : (exitCommand s).frameOut = s.frameOut := rfl

@[simp] theorem exitCommand_crc8En (s : State) : (exitCommand s).crc8En = false := rfl

@[simp] theorem exitCommand_crc16En (s : State) : (exitCommand s).crc16En = false := rfl

@[simp] theorem exitCommand_atPullStart (s : State) : (exitCommand s).atPullStart = false := rfl

@[simp] theorem exitCommand_seq (s : State) : (exitCommand s).seq = { s.seq with pos := .host } := rfl

/-! ### `errorEntry` -/

@[simp] theorem errorEntry_cfg (k : ErrorKind) (sub : Nat) (io : BitVec 32) (s : State) : (errorEntry k sub io s).cfg = s.cfg := rfl

@[simp] theorem errorEntry_buf (k : ErrorKind) (sub : Nat) (io : BitVec 32) (s : State) : (errorEntry k sub io s).buf = s.buf := rfl

@[simp] theorem errorEntry_bitsLeft (k : ErrorKind) (sub : Nat) (io : BitVec 32) (s : State) : (errorEntry k sub io s).bitsLeft = s.bitsLeft := rfl

@[simp] theorem errorEntry_bytePos (k : ErrorKind) (sub : Nat) (io : BitVec 32) (s : State) : (errorEntry k sub io s).bytePos = s.bytePos := rfl

@[simp] theorem errorEntry_crc8 (k : ErrorKind) (sub : Nat) (io : BitVec 32) (s : State) : (errorEntry k sub io s).crc8 = s.crc8 := rfl

@[simp] theorem errorEntry_crc16 (k : ErrorKind) (sub : Nat) (io : BitVec 32) (s : State) : (errorEntry k sub io s).crc16 = s.crc16 := rfl

@[simp] theorem errorEntry_si (k : ErrorKind) (sub : Nat) (io : BitVec 32) (s : State) : (errorEntry k sub io s).si = s.si := rfl

@[simp] theorem errorEntry_fh (k : ErrorKind) (sub : Nat) (io : BitVec 32) (s : State) : (errorEntry k sub io s).fh = s.fh := rfl

@[simp] theorem errorEntry_sf (k : ErrorKind) (sub : Nat) (io : BitVec 32) (s : State) : (errorEntry k sub io s).sf = s.sf := rfl

@[simp] theorem errorEntry_lpc (k : ErrorKind) (sub : Nat) (io : BitVec 32) (s : State) : (errorEntry k sub io s).lpc = s.lpc := rfl

@[simp] theorem errorEntry_res (k : ErrorKind) (sub : Nat) (io : BitVec 32) (s : State) : (errorEntry k sub io s).res = s.res := rfl

@[simp] theorem errorEntry_sub (k : ErrorKind) (sub : Nat) (io : BitVec 32) (s : State) : (errorEntry k sub io s).sub = s.sub := rfl

@[simp] theorem errorEntry_subEarlier (k : ErrorKind) (sub : Nat) (io : BitVec 32) (s : State) : (errorEntry k sub io s).subEarlier = s.subEarlier := rfl

@[simp] theorem errorEntry_out (k : ErrorKind) (sub : Nat) (io : BitVec 32) (s : State) : (errorEntry k sub io s).out = s.out := rfl

@[simp] theorem errorEntry_framesOk (k : ErrorKind) (sub : Nat) (io : BitVec 32) (s : State) : (errorEntry k sub io s).framesOk = s.framesOk := rfl

@[simp] theorem errorEntry_samplesOut (k : ErrorKind) (sub : Nat) (io : BitVec 32) (s : State) : (errorEntry k sub io s).samplesOut = s.samplesOut := rfl

@[simp] theorem errorEntry_md (k : ErrorKind) (sub : Nat) (io : BitVec 32) (s : State) : (errorEntry k sub io s).md = s.md := rfl

@[simp] theorem errorEntry_src (k : ErrorKind) (sub : Nat) (io : BitVec 32) (s : State) : (errorEntry k sub io s).src = s.src := rfl

@[simp] theorem errorEntry_host (k : ErrorKind) (sub : Nat) (io : BitVec 32) (s : State) : (errorEntry k sub io s).host = s.host := rfl

@[simp] theorem errorEntry_metadataOut (k : ErrorKind) (sub : Nat) (io : BitVec 32) (s : State) : (errorEntry k sub io s).metadataOut = s.metadataOut := rfl

@[simp] theorem errorEntry_frameOut (k : ErrorKind) (sub : Nat) (io : BitVec 32) (s : State) : (errorEntry k sub io s).frameOut = s.frameOut := rfl

@[simp] theorem errorEntry_crc8En (k : ErrorKind) (sub : Nat) (io : BitVec 32) (s : State) : (errorEntry k sub io s).crc8En = false := rfl

@[simp] theorem errorEntry_crc16En (k : ErrorKind) (sub : Nat) (io : BitVec 32) (s : State) : (errorEntry k sub io s).crc16En = false := rfl

@[simp] theorem errorEntry_atPullStart (k : ErrorKind) (sub : Nat) (io : BitVec 32) (s : State) : (errorEntry k sub io s).atPullStart = false := rfl

@[simp] theorem errorEntry_seq (k : ErrorKind) (sub : Nat) (io : BitVec 32) (s : State) : (errorEntry k sub io s).seq = { s.seq with pos := .host } := rfl

@[simp] theorem errorEntry_err (k : ErrorKind) (sub : Nat) (io : BitVec 32) (s : State) : (errorEntry k sub io s).err = { kind := k.code, sub := BitVec.ofNat 8 sub, bytePos := s.bytePos, bitsLeft := BitVec.ofNat 4 s.bitsLeft, ioCode := io } := rfl

@[simp] theorem errorEntry_lastResult (k : ErrorKind) (sub : Nat) (io : BitVec 32) (s : State) : (errorEntry k sub io s).lastResult = .error := rfl

@[simp] theorem errorEntry_state (k : ErrorKind) (sub : Nat) (io : BitVec 32) (s : State) : (errorEntry k sub io s).state = if inOpen s.seq.pos then .failed else s.state := rfl

/-! ### `endOfSequence` -/

@[simp] theorem endOfSequence_cfg (s : State) : (endOfSequence s).cfg = s.cfg := rfl

@[simp] theorem endOfSequence_buf (s : State) : (endOfSequence s).buf = s.buf := rfl

@[simp] theorem endOfSequence_bitsLeft (s : State) : (endOfSequence s).bitsLeft = s.bitsLeft := rfl

@[simp] theorem endOfSequence_bytePos (s : State) : (endOfSequence s).bytePos = s.bytePos := rfl

@[simp] theorem endOfSequence_crc8 (s : State) : (endOfSequence s).crc8 = s.crc8 := rfl

@[simp] theorem endOfSequence_crc16 (s : State) : (endOfSequence s).crc16 = s.crc16 := rfl

@[simp] theorem endOfSequence_si (s : State) : (endOfSequence s).si = s.si := rfl

@[simp] theorem endOfSequence_fh (s : State) : (endOfSequence s).fh = s.fh := rfl

@[simp] theorem endOfSequence_sf (s : State) : (endOfSequence s).sf = s.sf := rfl

@[simp] theorem endOfSequence_lpc (s : State) : (endOfSequence s).lpc = s.lpc := rfl

@[simp] theorem endOfSequence_res (s : State) : (endOfSequence s).res = s.res := rfl

@[simp] theorem endOfSequence_sub (s : State) : (endOfSequence s).sub = s.sub := rfl

@[simp] theorem endOfSequence_subEarlier (s : State) : (endOfSequence s).subEarlier = s.subEarlier := rfl

@[simp] theorem endOfSequence_out (s : State) : (endOfSequence s).out = s.out := rfl

@[simp] theorem endOfSequence_err (s : State) : (endOfSequence s).err = s.err := rfl

@[simp] theorem endOfSequence_framesOk (s : State) : (endOfSequence s).framesOk = s.framesOk := rfl

@[simp] theorem endOfSequence_samplesOut (s : State) : (endOfSequence s).samplesOut = s.samplesOut := rfl

@[simp] theorem endOfSequence_md (s : State) : (endOfSequence s).md = s.md := rfl

@[simp] theorem endOfSequence_src (s : State) : (endOfSequence s).src = s.src := rfl

@[simp] theorem endOfSequence_host (s : State) : (endOfSequence s).host = s.host := rfl

@[simp] theorem endOfSequence_metadataOut (s : State) : (endOfSequence s).metadataOut = s.metadataOut := rfl

@[simp] theorem endOfSequence_frameOut (s : State) : (endOfSequence s).frameOut = s.frameOut := rfl

@[simp] theorem endOfSequence_crc8En (s : State) : (endOfSequence s).crc8En = false := rfl

@[simp] theorem endOfSequence_crc16En (s : State) : (endOfSequence s).crc16En = false := rfl

@[simp] theorem endOfSequence_atPullStart (s : State) : (endOfSequence s).atPullStart = false := rfl

@[simp] theorem endOfSequence_seq (s : State) : (endOfSequence s).seq = { s.seq with pos := .host } := rfl

@[simp] theorem endOfSequence_lastResult (s : State) : (endOfSequence s).lastResult = .ended := rfl

@[simp] theorem endOfSequence_state (s : State) : (endOfSequence s).state = .ended := rfl

/-! ### `fetched` -/

@[simp] theorem fetched_cfg (b : Byte) (rest : List SrcAnswer) (s : State) : (fetched b rest s).cfg = s.cfg := rfl

@[simp] theorem fetched_state (b : Byte) (rest : List SrcAnswer) (s : State) : (fetched b rest s).state = s.state := rfl

@[simp] theorem fetched_crc8En (b : Byte) (rest : List SrcAnswer) (s : State) : (fetched b rest s).crc8En = s.crc8En := rfl

@[simp] theorem fetched_crc16En (b : Byte) (rest : List SrcAnswer) (s : State) : (fetched b rest s).crc16En = s.crc16En := rfl

@[simp] theorem fetched_si (b : Byte) (rest : List SrcAnswer) (s : State) : (fetched b rest s).si = s.si := rfl

@[simp] theorem fetched_fh (b : Byte) (rest : List SrcAnswer) (s : State) : (fetched b rest s).fh = s.fh := rfl

@[simp] theorem fetched_sf (b : Byte) (rest : List SrcAnswer) (s : State) : (fetched b rest s).sf = s.sf := rfl

@[simp] theorem fetched_lpc (b : Byte) (rest : List SrcAnswer) (s : State) : (fetched b rest s).lpc = s.lpc := rfl

@[simp] theorem fetched_res (b : Byte) (rest : List SrcAnswer) (s : State) : (fetched b rest s).res = s.res := rfl

@[simp] theorem fetched_sub (b : Byte) (rest : List SrcAnswer) (s : State) : (fetched b rest s).sub = s.sub := rfl

@[simp] theorem fetched_subEarlier (b : Byte) (rest : List SrcAnswer) (s : State) : (fetched b rest s).subEarlier = s.subEarlier := rfl

@[simp] theorem fetched_out (b : Byte) (rest : List SrcAnswer) (s : State) : (fetched b rest s).out = s.out := rfl

@[simp] theorem fetched_err (b : Byte) (rest : List SrcAnswer) (s : State) : (fetched b rest s).err = s.err := rfl

@[simp] theorem fetched_lastResult (b : Byte) (rest : List SrcAnswer) (s : State) : (fetched b rest s).lastResult = s.lastResult := rfl

@[simp] theorem fetched_framesOk (b : Byte) (rest : List SrcAnswer) (s : State) : (fetched b rest s).framesOk = s.framesOk := rfl

@[simp] theorem fetched_samplesOut (b : Byte) (rest : List SrcAnswer) (s : State) : (fetched b rest s).samplesOut = s.samplesOut := rfl

@[simp] theorem fetched_md (b : Byte) (rest : List SrcAnswer) (s : State) : (fetched b rest s).md = s.md := rfl

@[simp] theorem fetched_seq (b : Byte) (rest : List SrcAnswer) (s : State) : (fetched b rest s).seq = s.seq := rfl

@[simp] theorem fetched_host (b : Byte) (rest : List SrcAnswer) (s : State) : (fetched b rest s).host = s.host := rfl

@[simp] theorem fetched_metadataOut (b : Byte) (rest : List SrcAnswer) (s : State) : (fetched b rest s).metadataOut = s.metadataOut := rfl

@[simp] theorem fetched_frameOut (b : Byte) (rest : List SrcAnswer) (s : State) : (fetched b rest s).frameOut = s.frameOut := rfl

@[simp] theorem fetched_src (b : Byte) (rest : List SrcAnswer) (s : State) : (fetched b rest s).src = rest := rfl

@[simp] theorem fetched_buf (b : Byte) (rest : List SrcAnswer) (s : State) : (fetched b rest s).buf = b := rfl

@[simp] theorem fetched_bitsLeft (b : Byte) (rest : List SrcAnswer) (s : State) : (fetched b rest s).bitsLeft = 8 := rfl

@[simp] theorem fetched_bytePos (b : Byte) (rest : List SrcAnswer) (s : State) : (fetched b rest s).bytePos = s.bytePos + 1 := rfl

@[simp] theorem fetched_atPullStart (b : Byte) (rest : List SrcAnswer) (s : State) : (fetched b rest s).atPullStart = false := rfl

@[simp] theorem fetched_crc8 (b : Byte) (rest : List SrcAnswer) (s : State) : (fetched b rest s).crc8 = if s.crc8En then crc8Step s.crc8 b else s.crc8 := rfl

@[simp] theorem fetched_crc16 (b : Byte) (rest : List SrcAnswer) (s : State) : (fetched b rest s).crc16 = if s.crc16En then crc16Step s.crc16 b else s.crc16 := rfl

/-! ### `alignDiscard` -/

@[simp] theorem alignDiscard_cfg (s : State) : (alignDiscard s).cfg = s.cfg := rfl

@[simp] theorem alignDiscard_state (s : State) : (alignDiscard s).state = s.state := rfl

@[simp] theorem alignDiscard_buf (s : State) : (alignDiscard s).buf = s.buf := rfl

@[simp] theorem alignDiscard_bytePos (s : State) : (alignDiscard s).bytePos = s.bytePos := rfl

@[simp] theorem alignDiscard_crc8 (s : State) : (alignDiscard s).crc8 = s.crc8 := rfl

@[simp] theorem alignDiscard_crc8En (s : State) : (alignDiscard s).crc8En = s.crc8En := rfl

@[simp] theorem alignDiscard_crc16 (s : State) : (alignDiscard s).crc16 = s.crc16 := rfl

@[simp] theorem alignDiscard_crc16En (s : State) : (alignDiscard s).crc16En = s.crc16En := rfl

@[simp] theorem alignDiscard_atPullStart (s : State) : (alignDiscard s).atPullStart = s.atPullStart := rfl

@[simp] theorem alignDiscard_si (s : State) : (alignDiscard s).si = s.si := rfl

@[simp] theorem alignDiscard_fh (s : State) : (alignDiscard s).fh = s.fh := rfl

@[simp] theorem alignDiscard_sf (s : State) : (alignDiscard s).sf = s.sf := rfl

@[simp] theorem alignDiscard_lpc (s : State) : (alignDiscard s).lpc = s.lpc := rfl

@[simp] theorem alignDiscard_res (s : State) : (alignDiscard s).res = s.res := rfl

@[simp] theorem alignDiscard_sub (s : State) : (alignDiscard s).sub = s.sub := rfl

@[simp] theorem alignDiscard_subEarlier (s : State) : (alignDiscard s).subEarlier = s.subEarlier := rfl

@[simp] theorem alignDiscard_out (s : State) : (alignDiscard s).out = s.out := rfl

@[simp] theorem alignDiscard_err (s : State) : (alignDiscard s).err = s.err := rfl

@[simp] theorem alignDiscard_lastResult (s : State) : (alignDiscard s).lastResult = s.lastResult := rfl

@[simp] theorem alignDiscard_framesOk (s : State) : (alignDiscard s).framesOk = s.framesOk := rfl

@[simp] theorem alignDiscard_samplesOut (s : State) : (alignDiscard s).samplesOut = s.samplesOut := rfl

@[simp] theorem alignDiscard_md (s : State) : (alignDiscard s).md = s.md := rfl

@[simp] theorem alignDiscard_seq (s : State) : (alignDiscard s).seq = s.seq := rfl

@[simp] theorem alignDiscard_src (s : State) : (alignDiscard s).src = s.src := rfl

@[simp] theorem alignDiscard_host (s : State) : (alignDiscard s).host = s.host := rfl

@[simp] theorem alignDiscard_metadataOut (s : State) : (alignDiscard s).metadataOut = s.metadataOut := rfl

@[simp] theorem alignDiscard_frameOut (s : State) : (alignDiscard s).frameOut = s.frameOut := rfl

@[simp] theorem alignDiscard_bitsLeft (s : State) : (alignDiscard s).bitsLeft = 0 := rfl

/-! ### `crcBegin` -/

@[simp] theorem crcBegin_cfg (s : State) : (crcBegin s).cfg = s.cfg := rfl

@[simp] theorem crcBegin_state (s : State) : (crcBegin s).state = s.state := rfl

@[simp] theorem crcBegin_buf (s : State) : (crcBegin s).buf = s.buf := rfl

@[simp] theorem crcBegin_bitsLeft (s : State) : (crcBegin s).bitsLeft = s.bitsLeft := rfl

@[simp] theorem crcBegin_bytePos (s : State) : (crcBegin s).bytePos = s.bytePos := rfl

@[simp] theorem crcBegin_atPullStart (s : State) : (crcBegin s).atPullStart = s.atPullStart := rfl

@[simp] theorem crcBegin_si (s : State) : (crcBegin s).si = s.si := rfl

@[simp] theorem crcBegin_fh (s : State) : (crcBegin s).fh = s.fh := rfl

@[simp] theorem crcBegin_sf (s : State) : (crcBegin s).sf = s.sf := rfl

@[simp] theorem crcBegin_lpc (s : State) : (crcBegin s).lpc = s.lpc := rfl

@[simp] theorem crcBegin_res (s : State) : (crcBegin s).res = s.res := rfl

@[simp] theorem crcBegin_sub (s : State) : (crcBegin s).sub = s.sub := rfl

@[simp] theorem crcBegin_subEarlier (s : State) : (crcBegin s).subEarlier = s.subEarlier := rfl

@[simp] theorem crcBegin_out (s : State) : (crcBegin s).out = s.out := rfl

@[simp] theorem crcBegin_err (s : State) : (crcBegin s).err = s.err := rfl

@[simp] theorem crcBegin_lastResult (s : State) : (crcBegin s).lastResult = s.lastResult := rfl

@[simp] theorem crcBegin_framesOk (s : State) : (crcBegin s).framesOk = s.framesOk := rfl

@[simp] theorem crcBegin_samplesOut (s : State) : (crcBegin s).samplesOut = s.samplesOut := rfl

@[simp] theorem crcBegin_md (s : State) : (crcBegin s).md = s.md := rfl

@[simp] theorem crcBegin_seq (s : State) : (crcBegin s).seq = s.seq := rfl

@[simp] theorem crcBegin_src (s : State) : (crcBegin s).src = s.src := rfl

@[simp] theorem crcBegin_host (s : State) : (crcBegin s).host = s.host := rfl

@[simp] theorem crcBegin_metadataOut (s : State) : (crcBegin s).metadataOut = s.metadataOut := rfl

@[simp] theorem crcBegin_frameOut (s : State) : (crcBegin s).frameOut = s.frameOut := rfl

@[simp] theorem crcBegin_crc8 (s : State) : (crcBegin s).crc8 = 0 := rfl

@[simp] theorem crcBegin_crc16 (s : State) : (crcBegin s).crc16 = 0 := rfl

@[simp] theorem crcBegin_crc8En (s : State) : (crcBegin s).crc8En = true := rfl

@[simp] theorem crcBegin_crc16En (s : State) : (crcBegin s).crc16En = true := rfl

/-! ### `opened` -/

@[simp] theorem opened_cfg (s : State) : (opened s).cfg = s.cfg := rfl

@[simp] theorem opened_buf (s : State) : (opened s).buf = s.buf := rfl

@[simp] theorem opened_bitsLeft (s : State) : (opened s).bitsLeft = s.bitsLeft := rfl

@[simp] theorem opened_bytePos (s : State) : (opened s).bytePos = s.bytePos := rfl

@[simp] theorem opened_crc8 (s : State) : (opened s).crc8 = s.crc8 := rfl

@[simp] theorem opened_crc8En (s : State) : (opened s).crc8En = s.crc8En := rfl

@[simp] theorem opened_crc16 (s : State) : (opened s).crc16 = s.crc16 := rfl

@[simp] theorem opened_crc16En (s : State) : (opened s).crc16En = s.crc16En := rfl

@[simp] theorem opened_atPullStart (s : State) : (opened s).atPullStart = s.atPullStart := rfl

@[simp] theorem opened_si (s : State) : (opened s).si = s.si := rfl

@[simp] theorem opened_fh (s : State) : (opened s).fh = s.fh := rfl

@[simp] theorem opened_sf (s : State) : (opened s).sf = s.sf := rfl

@[simp] theorem opened_lpc (s : State) : (opened s).lpc = s.lpc := rfl

@[simp] theorem opened_res (s : State) : (opened s).res = s.res := rfl

@[simp] theorem opened_sub (s : State) : (opened s).sub = s.sub := rfl

@[simp] theorem opened_subEarlier (s : State) : (opened s).subEarlier = s.subEarlier := rfl

@[simp] theorem opened_out (s : State) : (opened s).out = s.out := rfl

@[simp] theorem opened_err (s : State) : (opened s).err = s.err := rfl

@[simp] theorem opened_framesOk (s : State) : (opened s).framesOk = s.framesOk := rfl

@[simp] theorem opened_samplesOut (s : State) : (opened s).samplesOut = s.samplesOut := rfl

@[simp] theorem opened_md (s : State) : (opened s).md = s.md := rfl

@[simp] theorem opened_src (s : State) : (opened s).src = s.src := rfl

@[simp] theorem opened_host (s : State) : (opened s).host = s.host := rfl

@[simp] theorem opened_metadataOut (s : State) : (opened s).metadataOut = s.metadataOut := rfl

@[simp] theorem opened_frameOut (s : State) : (opened s).frameOut = s.frameOut := rfl

@[simp] theorem opened_state (s : State) : (opened s).state = .ready := rfl

@[simp] theorem opened_lastResult (s : State) : (opened s).lastResult = .opened := rfl

@[simp] theorem opened_seq (s : State) : (opened s).seq = { s.seq with pos := .host } := rfl

/-! ### `committed` -/

@[simp] theorem committed_cfg (s : State) : (committed s).cfg = s.cfg := rfl

@[simp] theorem committed_state (s : State) : (committed s).state = s.state := rfl

@[simp] theorem committed_buf (s : State) : (committed s).buf = s.buf := rfl

@[simp] theorem committed_bitsLeft (s : State) : (committed s).bitsLeft = s.bitsLeft := rfl

@[simp] theorem committed_bytePos (s : State) : (committed s).bytePos = s.bytePos := rfl

@[simp] theorem committed_crc8 (s : State) : (committed s).crc8 = s.crc8 := rfl

@[simp] theorem committed_crc16 (s : State) : (committed s).crc16 = s.crc16 := rfl

@[simp] theorem committed_si (s : State) : (committed s).si = s.si := rfl

@[simp] theorem committed_fh (s : State) : (committed s).fh = s.fh := rfl

@[simp] theorem committed_sf (s : State) : (committed s).sf = s.sf := rfl

@[simp] theorem committed_lpc (s : State) : (committed s).lpc = s.lpc := rfl

@[simp] theorem committed_res (s : State) : (committed s).res = s.res := rfl

@[simp] theorem committed_sub (s : State) : (committed s).sub = s.sub := rfl

@[simp] theorem committed_subEarlier (s : State) : (committed s).subEarlier = s.subEarlier := rfl

@[simp] theorem committed_out (s : State) : (committed s).out = s.out := rfl

@[simp] theorem committed_err (s : State) : (committed s).err = s.err := rfl

@[simp] theorem committed_md (s : State) : (committed s).md = s.md := rfl

@[simp] theorem committed_src (s : State) : (committed s).src = s.src := rfl

@[simp] theorem committed_host (s : State) : (committed s).host = s.host := rfl

@[simp] theorem committed_metadataOut (s : State) : (committed s).metadataOut = s.metadataOut := rfl

@[simp] theorem committed_frameOut (s : State) : (committed s).frameOut = s.frameOut := rfl

@[simp] theorem committed_crc8En (s : State) : (committed s).crc8En = false := rfl

@[simp] theorem committed_crc16En (s : State) : (committed s).crc16En = false := rfl

@[simp] theorem committed_atPullStart (s : State) : (committed s).atPullStart = false := rfl

@[simp] theorem committed_seq (s : State) : (committed s).seq = { s.seq with pos := .host } := rfl

@[simp] theorem committed_framesOk (s : State) : (committed s).framesOk = s.framesOk + 1 := rfl

@[simp] theorem committed_samplesOut (s : State) : (committed s).samplesOut = s.samplesOut + s.fh.blockSize.setWidth 64 := rfl

@[simp] theorem committed_lastResult (s : State) : (committed s).lastResult = .frame := rfl

/-! ### `rejected` -/

@[simp] theorem rejected_cfg (s : State) : (rejected s).cfg = s.cfg := rfl

@[simp] theorem rejected_state (s : State) : (rejected s).state = s.state := rfl

@[simp] theorem rejected_buf (s : State) : (rejected s).buf = s.buf := rfl

@[simp] theorem rejected_bitsLeft (s : State) : (rejected s).bitsLeft = s.bitsLeft := rfl

@[simp] theorem rejected_bytePos (s : State) : (rejected s).bytePos = s.bytePos := rfl

@[simp] theorem rejected_crc8 (s : State) : (rejected s).crc8 = s.crc8 := rfl

@[simp] theorem rejected_crc8En (s : State) : (rejected s).crc8En = s.crc8En := rfl

@[simp] theorem rejected_crc16 (s : State) : (rejected s).crc16 = s.crc16 := rfl

@[simp] theorem rejected_crc16En (s : State) : (rejected s).crc16En = s.crc16En := rfl

@[simp] theorem rejected_atPullStart (s : State) : (rejected s).atPullStart = s.atPullStart := rfl

@[simp] theorem rejected_si (s : State) : (rejected s).si = s.si := rfl

@[simp] theorem rejected_fh (s : State) : (rejected s).fh = s.fh := rfl

@[simp] theorem rejected_sf (s : State) : (rejected s).sf = s.sf := rfl

@[simp] theorem rejected_lpc (s : State) : (rejected s).lpc = s.lpc := rfl

@[simp] theorem rejected_res (s : State) : (rejected s).res = s.res := rfl

@[simp] theorem rejected_sub (s : State) : (rejected s).sub = s.sub := rfl

@[simp] theorem rejected_subEarlier (s : State) : (rejected s).subEarlier = s.subEarlier := rfl

@[simp] theorem rejected_out (s : State) : (rejected s).out = s.out := rfl

@[simp] theorem rejected_err (s : State) : (rejected s).err = s.err := rfl

@[simp] theorem rejected_framesOk (s : State) : (rejected s).framesOk = s.framesOk := rfl

@[simp] theorem rejected_samplesOut (s : State) : (rejected s).samplesOut = s.samplesOut := rfl

@[simp] theorem rejected_md (s : State) : (rejected s).md = s.md := rfl

@[simp] theorem rejected_seq (s : State) : (rejected s).seq = s.seq := rfl

@[simp] theorem rejected_src (s : State) : (rejected s).src = s.src := rfl

@[simp] theorem rejected_host (s : State) : (rejected s).host = s.host := rfl

@[simp] theorem rejected_metadataOut (s : State) : (rejected s).metadataOut = s.metadataOut := rfl

@[simp] theorem rejected_frameOut (s : State) : (rejected s).frameOut = s.frameOut := rfl

@[simp] theorem rejected_lastResult (s : State) : (rejected s).lastResult = .rejected := rfl

/-! ### `State.bitTaken` -/

@[simp] theorem bitTaken_cfg (s : State) : s.bitTaken.cfg = s.cfg := rfl

@[simp] theorem bitTaken_state (s : State) : s.bitTaken.state = s.state := rfl

@[simp] theorem bitTaken_buf (s : State) : s.bitTaken.buf = s.buf := rfl

@[simp] theorem bitTaken_bitsLeft (s : State) : s.bitTaken.bitsLeft = s.bitsLeft - 1 := rfl

@[simp] theorem bitTaken_bytePos (s : State) : s.bitTaken.bytePos = s.bytePos := rfl

@[simp] theorem bitTaken_crc8 (s : State) : s.bitTaken.crc8 = s.crc8 := rfl

@[simp] theorem bitTaken_crc8En (s : State) : s.bitTaken.crc8En = s.crc8En := rfl

@[simp] theorem bitTaken_crc16 (s : State) : s.bitTaken.crc16 = s.crc16 := rfl

@[simp] theorem bitTaken_crc16En (s : State) : s.bitTaken.crc16En = s.crc16En := rfl

@[simp] theorem bitTaken_atPullStart (s : State) : s.bitTaken.atPullStart = s.atPullStart := rfl

@[simp] theorem bitTaken_si (s : State) : s.bitTaken.si = s.si := rfl

@[simp] theorem bitTaken_fh (s : State) : s.bitTaken.fh = s.fh := rfl

@[simp] theorem bitTaken_sf (s : State) : s.bitTaken.sf = s.sf := rfl

@[simp] theorem bitTaken_lpc (s : State) : s.bitTaken.lpc = s.lpc := rfl

@[simp] theorem bitTaken_res (s : State) : s.bitTaken.res = s.res := rfl

@[simp] theorem bitTaken_sub (s : State) : s.bitTaken.sub = s.sub := rfl

@[simp] theorem bitTaken_subEarlier (s : State) : s.bitTaken.subEarlier = s.subEarlier := rfl

@[simp] theorem bitTaken_out (s : State) : s.bitTaken.out = s.out := rfl

@[simp] theorem bitTaken_err (s : State) : s.bitTaken.err = s.err := rfl

@[simp] theorem bitTaken_lastResult (s : State) : s.bitTaken.lastResult = s.lastResult := rfl

@[simp] theorem bitTaken_framesOk (s : State) : s.bitTaken.framesOk = s.framesOk := rfl

@[simp] theorem bitTaken_samplesOut (s : State) : s.bitTaken.samplesOut = s.samplesOut := rfl

@[simp] theorem bitTaken_md (s : State) : s.bitTaken.md = s.md := rfl

@[simp] theorem bitTaken_seq (s : State) : s.bitTaken.seq = s.seq := rfl

@[simp] theorem bitTaken_src (s : State) : s.bitTaken.src = s.src := rfl

@[simp] theorem bitTaken_host (s : State) : s.bitTaken.host = s.host := rfl

@[simp] theorem bitTaken_metadataOut (s : State) : s.bitTaken.metadataOut = s.metadataOut := rfl

@[simp] theorem bitTaken_frameOut (s : State) : s.bitTaken.frameOut = s.frameOut := rfl

/-! ### `State.atSubframe` -/

@[simp] theorem atSubframe_cfg (s : State) (c : Nat) : (s.atSubframe c).cfg = s.cfg := rfl

@[simp] theorem atSubframe_state (s : State) (c : Nat) : (s.atSubframe c).state = s.state := rfl

@[simp] theorem atSubframe_buf (s : State) (c : Nat) : (s.atSubframe c).buf = s.buf := rfl

@[simp] theorem atSubframe_bitsLeft (s : State) (c : Nat) : (s.atSubframe c).bitsLeft = s.bitsLeft := rfl

@[simp] theorem atSubframe_bytePos (s : State) (c : Nat) : (s.atSubframe c).bytePos = s.bytePos := rfl

@[simp] theorem atSubframe_crc8 (s : State) (c : Nat) : (s.atSubframe c).crc8 = s.crc8 := rfl

@[simp] theorem atSubframe_crc8En (s : State) (c : Nat) : (s.atSubframe c).crc8En = s.crc8En := rfl

@[simp] theorem atSubframe_crc16 (s : State) (c : Nat) : (s.atSubframe c).crc16 = s.crc16 := rfl

@[simp] theorem atSubframe_crc16En (s : State) (c : Nat) : (s.atSubframe c).crc16En = s.crc16En := rfl

@[simp] theorem atSubframe_atPullStart (s : State) (c : Nat) : (s.atSubframe c).atPullStart = s.atPullStart := rfl

@[simp] theorem atSubframe_si (s : State) (c : Nat) : (s.atSubframe c).si = s.si := rfl

@[simp] theorem atSubframe_fh (s : State) (c : Nat) : (s.atSubframe c).fh = s.fh := rfl

@[simp] theorem atSubframe_sf (s : State) (c : Nat) : (s.atSubframe c).sf = { s.sf with ch := BitVec.ofNat 3 c, fullW := BitVec.ofNat 6 (fullWidth s.fh c) } := rfl

@[simp] theorem atSubframe_lpc (s : State) (c : Nat) : (s.atSubframe c).lpc = s.lpc := rfl

@[simp] theorem atSubframe_res (s : State) (c : Nat) : (s.atSubframe c).res = s.res := rfl

@[simp] theorem atSubframe_sub (s : State) (c : Nat) : (s.atSubframe c).sub = s.sub := rfl

@[simp] theorem atSubframe_subEarlier (s : State) (c : Nat) : (s.atSubframe c).subEarlier = s.subEarlier := rfl

@[simp] theorem atSubframe_out (s : State) (c : Nat) : (s.atSubframe c).out = s.out := rfl

@[simp] theorem atSubframe_err (s : State) (c : Nat) : (s.atSubframe c).err = s.err := rfl

@[simp] theorem atSubframe_lastResult (s : State) (c : Nat) : (s.atSubframe c).lastResult = s.lastResult := rfl

@[simp] theorem atSubframe_framesOk (s : State) (c : Nat) : (s.atSubframe c).framesOk = s.framesOk := rfl

@[simp] theorem atSubframe_samplesOut (s : State) (c : Nat) : (s.atSubframe c).samplesOut = s.samplesOut := rfl

@[simp] theorem atSubframe_md (s : State) (c : Nat) : (s.atSubframe c).md = s.md := rfl

@[simp] theorem atSubframe_seq (s : State) (c : Nat) : (s.atSubframe c).seq = { s.seq with pos := .subframe } := rfl

@[simp] theorem atSubframe_src (s : State) (c : Nat) : (s.atSubframe c).src = s.src := rfl

@[simp] theorem atSubframe_host (s : State) (c : Nat) : (s.atSubframe c).host = s.host := rfl

@[simp] theorem atSubframe_metadataOut (s : State) (c : Nat) : (s.atSubframe c).metadataOut = s.metadataOut := rfl

@[simp] theorem atSubframe_frameOut (s : State) (c : Nat) : (s.atSubframe c).frameOut = s.frameOut := rfl

/-! ### `newFrame` -/

@[simp] theorem newFrame_cfg (s : State) : (newFrame s).cfg = s.cfg := rfl

@[simp] theorem newFrame_state (s : State) : (newFrame s).state = s.state := rfl

@[simp] theorem newFrame_buf (s : State) : (newFrame s).buf = s.buf := rfl

@[simp] theorem newFrame_bitsLeft (s : State) : (newFrame s).bitsLeft = s.bitsLeft := rfl

@[simp] theorem newFrame_bytePos (s : State) : (newFrame s).bytePos = s.bytePos := rfl

@[simp] theorem newFrame_crc8 (s : State) : (newFrame s).crc8 = s.crc8 := rfl

@[simp] theorem newFrame_crc8En (s : State) : (newFrame s).crc8En = s.crc8En := rfl

@[simp] theorem newFrame_crc16 (s : State) : (newFrame s).crc16 = s.crc16 := rfl

@[simp] theorem newFrame_crc16En (s : State) : (newFrame s).crc16En = s.crc16En := rfl

@[simp] theorem newFrame_atPullStart (s : State) : (newFrame s).atPullStart = s.atPullStart := rfl

@[simp] theorem newFrame_si (s : State) : (newFrame s).si = s.si := rfl

@[simp] theorem newFrame_fh (s : State) : (newFrame s).fh = s.fh := rfl

@[simp] theorem newFrame_sf (s : State) : (newFrame s).sf = s.sf := rfl

@[simp] theorem newFrame_lpc (s : State) : (newFrame s).lpc = s.lpc := rfl

@[simp] theorem newFrame_res (s : State) : (newFrame s).res = s.res := rfl

@[simp] theorem newFrame_out (s : State) : (newFrame s).out = s.out := rfl

@[simp] theorem newFrame_err (s : State) : (newFrame s).err = s.err := rfl

@[simp] theorem newFrame_lastResult (s : State) : (newFrame s).lastResult = s.lastResult := rfl

@[simp] theorem newFrame_framesOk (s : State) : (newFrame s).framesOk = s.framesOk := rfl

@[simp] theorem newFrame_samplesOut (s : State) : (newFrame s).samplesOut = s.samplesOut := rfl

@[simp] theorem newFrame_md (s : State) : (newFrame s).md = s.md := rfl

@[simp] theorem newFrame_seq (s : State) : (newFrame s).seq = s.seq := rfl

@[simp] theorem newFrame_src (s : State) : (newFrame s).src = s.src := rfl

@[simp] theorem newFrame_host (s : State) : (newFrame s).host = s.host := rfl

@[simp] theorem newFrame_metadataOut (s : State) : (newFrame s).metadataOut = s.metadataOut := rfl

@[simp] theorem newFrame_frameOut (s : State) : (newFrame s).frameOut = s.frameOut := rfl

@[simp] theorem newFrame_sub (s : State) : (newFrame s).sub = [] := rfl

@[simp] theorem newFrame_subEarlier (s : State) : (newFrame s).subEarlier = s.sub.over s.subEarlier := rfl

/-! ### `countBlock` -/

/-- `MD_COUNT` after a block, below the register's top. -/
theorem countBlock_of_lt {s : State} (h : s.md.count + 1 ≠ 0) : countBlock s = s.md.count + 1 := if_neg h

/-- After a block `MD_COUNT` is not 0, whatever the free value is: no later block is a first one (R147). -/
theorem countBlock_ne_zero (s : State) : countBlock s ≠ 0 := by
  unfold countBlock
  split
  · intro h
    have hlt := (Config.countPastTop s.metadataOut.length).isLt
    have h0 : ((Config.countPastTop s.metadataOut.length).val + 1) % 2 ^ 32 = 0 := by
      simpa using congrArg BitVec.toNat h
    omega
  · assumption

end Sys2Proof.Machine
end

