-- ==== Sys2Proof/Laws/BitReader.lean ====
section
/-!
SUPPORT. The bit reader against the stream ahead of the cursor: reading a bit takes the first one, and where none is left
the fetch ends the command.
-/

namespace Sys2Proof

@[simp] theorem natToBits_zero (v : Nat) : natToBits 0 v = [] := rfl

theorem natToBits_succ (n v : Nat) : natToBits (n + 1) v = v.testBit n :: natToBits n v := rfl

@[simp] theorem natToBits_length (n v : Nat) : (natToBits n v).length = n := by
  induction n with
  | zero => rfl
  | succ n ih => simp [natToBits_succ, ih]

theorem bitsToNat_append (acc : Nat) (a b : Bits) : bitsToNat acc (a ++ b) = bitsToNat (bitsToNat acc a) b := by
  induction a generalizing acc with
  | nil => rfl
  | cons x a ih => exact ih _

/-- The value of an n-bit pattern, with what was read before it in the high bits. -/
theorem bitsToNat_natToBits (acc n v : Nat) : bitsToNat acc (natToBits n v) = acc * 2 ^ n + v % 2 ^ n := by
  induction n generalizing acc with
  | zero => simp [natToBits, bitsToNat, Nat.mod_one]
  | succ n ih =>
    have hb : (v.testBit n).toNat = v / 2 ^ n % 2 := by
      rw [Nat.toNat_testBit]
    have hm : v % 2 ^ (n + 1) = 2 ^ n * (v / 2 ^ n % 2) + v % 2 ^ n := by
      rw [pow_succ, Nat.mod_mul, Nat.add_comm]
    rw [natToBits_succ, bitsToNat, ih, hb, hm, pow_succ]
    ring

namespace Machine

@[simp] theorem skip_zero (s : State) : s.skip 0 = s := rfl

theorem skip_add (m n : Nat) (s : State) : s.skip (m + n) = (s.skip m).skip n := by
  induction m generalizing s with
  | zero => simp
  | succ m ih => rw [Nat.succ_add]; exact ih _

theorem answerBits_byte (b : Byte) (rest : List SrcAnswer) :
    answerBits (.byte b :: rest) = natToBits 8 b.toNat ++ answerBits rest := rfl

/-- The stream depends on the cursor and the answers to come alone. -/
theorem stream_congr {s t : State} (h1 : s.bitsLeft = t.bitsLeft) (h2 : s.buf = t.buf) (h3 : s.src = t.src) :
    s.stream = t.stream := by
  simp only [State.stream, h1, h2, h3]

/-- READ_BIT takes the first bit of the stream (R122, R121). -/
theorem readBit_ok {s : State} {b : Bool} {bs : Bits} (h : s.stream = b :: bs) :
    readBit s = .ok b (s.skip 1) ∧ (s.skip 1).stream = bs := by
  simp only [readBit, bind_run, ask_run]
  by_cases h0 : s.bitsLeft = 0
  · simp only [h0, if_true]
    match hs : s.src with
    | [] => simp [State.stream, h0, hs, answerBits] at h
    | .ioErr e :: rest => simp [State.stream, h0, hs, answerBits] at h
    | .byte x :: rest =>
      simp only [State.stream, h0, hs, answerBits_byte, natToBits_succ, natToBits_zero, List.nil_append,
        List.cons_append, List.cons.injEq] at h
      obtain ⟨rfl, rfl⟩ := h
      have hl : s.loaded = fetched x rest s := by simp [State.loaded, h0, hs]
      refine ⟨?_, ?_⟩
      · simp [bind_run, fetch, hs, takeBit, State.skip, State.bitTaken, hl, BitVec.getLsbD]
      · simp [State.stream, State.skip, State.bitTaken, hl, natToBits_succ]
  · obtain ⟨n, hn⟩ := Nat.exists_eq_succ_of_ne_zero h0
    have hl : s.loaded = s := by simp [State.loaded, h0]
    simp only [State.stream, hn, natToBits_succ, List.cons_append, List.cons.injEq] at h
    obtain ⟨rfl, rfl⟩ := h
    refine ⟨?_, ?_⟩
    · simp [takeBit, State.skip, State.bitTaken, hl, hn, BitVec.getLsbD]
    · simp [State.stream, State.skip, State.bitTaken, hl, hn]

/-- READ_BIT with no bit left and no byte to come ends the command as the fetch says (R121, R133, R134). -/
theorem readBit_none {s : State} (h : s.stream = []) : readBit s = .error .ended s.noByte := by
  have h0 : s.bitsLeft = 0 := by
    rcases hb : s.bitsLeft with _ | n
    · rfl
    · simp [State.stream, hb, natToBits_succ] at h
  simp only [readBit, bind_run, ask_run, h0, if_true]
  match hs : s.src with
  | [] =>
    by_cases ha : s.atPullStart <;> simp [fetch, hs, State.noByte, ha]
  | .ioErr e :: rest => simp [fetch, hs, State.noByte]
  | .byte x :: rest => simp [State.stream, h0, hs, answerBits_byte, natToBits_succ] at h

/-- READ_U takes n bits, the first the most significant (R123). -/
theorem readUFrom_ok {n : Nat} {s : State} {bits rest : Bits} (v : Nat) (hn : bits.length = n)
    (h : s.stream = bits ++ rest) :
    readUFrom v n s = .ok (bitsToNat v bits) (s.skip n) ∧ (s.skip n).stream = rest := by
  induction n generalizing s bits v with
  | zero =>
    obtain rfl := List.length_eq_zero_iff.mp hn
    exact ⟨rfl, h⟩
  | succ n ih =>
    match bits, hn with
    | b :: bs, hn =>
      obtain ⟨h1, h2⟩ := readBit_ok (bs := bs ++ rest) h
      obtain ⟨h3, h4⟩ := ih (2 * v + b.toNat) (Nat.succ.inj hn) h2
      rw [Nat.add_comm, skip_add]
      refine ⟨?_, h4⟩
      rw [Nat.add_comm, readUFrom, bind_ok h1]
      exact h3

/-- READ_U past the last bit ends the command where the data ends (R123, R133, R134). -/
theorem readUFrom_short {n : Nat} {s : State} (v : Nat) (h : s.stream.length < n) :
    readUFrom v n s = .error .ended (s.skip s.stream.length).noByte := by
  induction n generalizing s v with
  | zero => omega
  | succ n ih =>
    match hs : s.stream with
    | [] =>
      rw [readUFrom, bind_error (readBit_none hs)]
      rfl
    | b :: bs =>
      obtain ⟨h1, h2⟩ := readBit_ok hs
      have hl : (s.skip 1).stream.length < n := by
        rw [h2]
        rw [hs] at h
        simpa using h
      rw [readUFrom, bind_ok h1, ih _ hl, h2, List.length_cons, Nat.add_comm, skip_add]

/-- The bits ahead after a move over n of them. -/
theorem stream_skip {n : Nat} {s : State} (h : n ≤ s.stream.length) : (s.skip n).stream = s.stream.drop n :=
  (readUFrom_ok 0 (bits := s.stream.take n) (by simp [h]) (List.take_append_drop n s.stream).symm).2

/-- A field whose value the instruction holds: the cursor moves over it. -/
theorem skipBits_ok {n : Nat} {s : State} (h : n ≤ s.stream.length) : skipBits n s = .ok () (s.skip n) := by
  have h1 := (readUFrom_ok (n := n) 0 (bits := s.stream.take n) (by simp [h]) (List.take_append_drop n s.stream).symm).1
  rw [skipBits, readU, bind_ok h1]
  rfl

/-- A field after n bits already moved over. -/
theorem skipBits_next {m n : Nat} {s : State} (h : m + n ≤ s.stream.length) :
    skipBits n (s.skip m) = .ok () (s.skip (m + n)) := by
  rw [skipBits_ok (by rw [stream_skip (by omega)]; simp; omega), skip_add]

/-- A field with bits missing. -/
theorem skipBits_short {n : Nat} {s : State} (h : s.stream.length < n) :
    skipBits n s = .error .ended (s.skip s.stream.length).noByte := by
  rw [skipBits, readU, bind_error (readUFrom_short 0 h)]

/-! ### A move of the cursor and a write of another register come in either order -/

theorem skip_with_si (n : Nat) (x : StreamInfo) (s : State) :
    ({ s with si := x } : State).skip n = { s.skip n with si := x } := by
  induction n generalizing s with
  | zero => rfl
  | succ n ih =>
    have h : ({ s with si := x } : State).loaded.bitTaken = { s.loaded.bitTaken with si := x } := by
      by_cases h0 : s.bitsLeft = 0
      · rcases hs : s.src with _ | ⟨_ | _, _⟩ <;> simp [State.bitTaken, State.loaded, h0, hs, fetched]
      · simp [State.bitTaken, State.loaded, h0]
    rw [State.skip, h, ih]
    rfl

theorem skip_with_fh (n : Nat) (x : FrameHeader) (s : State) :
    ({ s with fh := x } : State).skip n = { s.skip n with fh := x } := by
  induction n generalizing s with
  | zero => rfl
  | succ n ih =>
    have h : ({ s with fh := x } : State).loaded.bitTaken = { s.loaded.bitTaken with fh := x } := by
      by_cases h0 : s.bitsLeft = 0
      · rcases hs : s.src with _ | ⟨_ | _, _⟩ <;> simp [State.bitTaken, State.loaded, h0, hs, fetched]
      · simp [State.bitTaken, State.loaded, h0]
    rw [State.skip, h, ih]
    rfl

theorem skip_with_sf (n : Nat) (x : Subframe) (s : State) :
    ({ s with sf := x } : State).skip n = { s.skip n with sf := x } := by
  induction n generalizing s with
  | zero => rfl
  | succ n ih =>
    have h : ({ s with sf := x } : State).loaded.bitTaken = { s.loaded.bitTaken with sf := x } := by
      by_cases h0 : s.bitsLeft = 0
      · rcases hs : s.src with _ | ⟨_ | _, _⟩ <;> simp [State.bitTaken, State.loaded, h0, hs, fetched]
      · simp [State.bitTaken, State.loaded, h0]
    rw [State.skip, h, ih]
    rfl

theorem skip_with_lpc (n : Nat) (x : Lpc) (s : State) :
    ({ s with lpc := x } : State).skip n = { s.skip n with lpc := x } := by
  induction n generalizing s with
  | zero => rfl
  | succ n ih =>
    have h : ({ s with lpc := x } : State).loaded.bitTaken = { s.loaded.bitTaken with lpc := x } := by
      by_cases h0 : s.bitsLeft = 0
      · rcases hs : s.src with _ | ⟨_ | _, _⟩ <;> simp [State.bitTaken, State.loaded, h0, hs, fetched]
      · simp [State.bitTaken, State.loaded, h0]
    rw [State.skip, h, ih]
    rfl

theorem skip_with_res (n : Nat) (x : Residual) (s : State) :
    ({ s with res := x } : State).skip n = { s.skip n with res := x } := by
  induction n generalizing s with
  | zero => rfl
  | succ n ih =>
    have h : ({ s with res := x } : State).loaded.bitTaken = { s.loaded.bitTaken with res := x } := by
      by_cases h0 : s.bitsLeft = 0
      · rcases hs : s.src with _ | ⟨_ | _, _⟩ <;> simp [State.bitTaken, State.loaded, h0, hs, fetched]
      · simp [State.bitTaken, State.loaded, h0]
    rw [State.skip, h, ih]
    rfl

theorem skip_with_sub (n : Nat) (x : SampleRam) (s : State) :
    ({ s with sub := x } : State).skip n = { s.skip n with sub := x } := by
  induction n generalizing s with
  | zero => rfl
  | succ n ih =>
    have h : ({ s with sub := x } : State).loaded.bitTaken = { s.loaded.bitTaken with sub := x } := by
      by_cases h0 : s.bitsLeft = 0
      · rcases hs : s.src with _ | ⟨_ | _, _⟩ <;> simp [State.bitTaken, State.loaded, h0, hs, fetched]
      · simp [State.bitTaken, State.loaded, h0]
    rw [State.skip, h, ih]
    rfl

theorem skip_with_subEarlier (n : Nat) (x : SampleRam) (s : State) :
    ({ s with subEarlier := x } : State).skip n = { s.skip n with subEarlier := x } := by
  induction n generalizing s with
  | zero => rfl
  | succ n ih =>
    have h : ({ s with subEarlier := x } : State).loaded.bitTaken = { s.loaded.bitTaken with subEarlier := x } := by
      by_cases h0 : s.bitsLeft = 0
      · rcases hs : s.src with _ | ⟨_ | _, _⟩ <;> simp [State.bitTaken, State.loaded, h0, hs, fetched]
      · simp [State.bitTaken, State.loaded, h0]
    rw [State.skip, h, ih]
    rfl

theorem skip_with_out (n : Nat) (x : SampleRam) (s : State) :
    ({ s with out := x } : State).skip n = { s.skip n with out := x } := by
  induction n generalizing s with
  | zero => rfl
  | succ n ih =>
    have h : ({ s with out := x } : State).loaded.bitTaken = { s.loaded.bitTaken with out := x } := by
      by_cases h0 : s.bitsLeft = 0
      · rcases hs : s.src with _ | ⟨_ | _, _⟩ <;> simp [State.bitTaken, State.loaded, h0, hs, fetched]
      · simp [State.bitTaken, State.loaded, h0]
    rw [State.skip, h, ih]
    rfl

theorem skip_with_md (n : Nat) (x : Metadata) (s : State) :
    ({ s with md := x } : State).skip n = { s.skip n with md := x } := by
  induction n generalizing s with
  | zero => rfl
  | succ n ih =>
    have h : ({ s with md := x } : State).loaded.bitTaken = { s.loaded.bitTaken with md := x } := by
      by_cases h0 : s.bitsLeft = 0
      · rcases hs : s.src with _ | ⟨_ | _, _⟩ <;> simp [State.bitTaken, State.loaded, h0, hs, fetched]
      · simp [State.bitTaken, State.loaded, h0]
    rw [State.skip, h, ih]
    rfl

theorem skip_with_seq (n : Nat) (x : Sequencer) (s : State) :
    ({ s with seq := x } : State).skip n = { s.skip n with seq := x } := by
  induction n generalizing s with
  | zero => rfl
  | succ n ih =>
    have h : ({ s with seq := x } : State).loaded.bitTaken = { s.loaded.bitTaken with seq := x } := by
      by_cases h0 : s.bitsLeft = 0
      · rcases hs : s.src with _ | ⟨_ | _, _⟩ <;> simp [State.bitTaken, State.loaded, h0, hs, fetched]
      · simp [State.bitTaken, State.loaded, h0]
    rw [State.skip, h, ih]
    rfl

theorem skip_with_metadataOut (n : Nat) (x : List MetadataRecord) (s : State) :
    ({ s with metadataOut := x } : State).skip n = { s.skip n with metadataOut := x } := by
  induction n generalizing s with
  | zero => rfl
  | succ n ih =>
    have h : ({ s with metadataOut := x } : State).loaded.bitTaken = { s.loaded.bitTaken with metadataOut := x } := by
      by_cases h0 : s.bitsLeft = 0
      · rcases hs : s.src with _ | ⟨_ | _, _⟩ <;> simp [State.bitTaken, State.loaded, h0, hs, fetched]
      · simp [State.bitTaken, State.loaded, h0]
    rw [State.skip, h, ih]
    rfl

/-! ### What a move of the cursor leaves unchanged (R121) -/

/-- A move of the cursor changes nothing but the cursor, the checksums, `AT_PULL_START` and the answers to come. -/
theorem skip_frame (n : Nat) (s : State) :
    s.skip n =
      { s with
        buf := (s.skip n).buf
        bitsLeft := (s.skip n).bitsLeft
        bytePos := (s.skip n).bytePos
        atPullStart := (s.skip n).atPullStart
        crc8 := (s.skip n).crc8
        crc16 := (s.skip n).crc16
        src := (s.skip n).src } := by
  induction n generalizing s with
  | zero => rfl
  | succ n ih =>
    rw [State.skip, ih]
    unfold State.bitTaken State.loaded
    split
    · split <;> rfl
    · rfl

@[simp] theorem skip_cfg (n : Nat) (s : State) : (s.skip n).cfg = s.cfg := by rw [skip_frame]

@[simp] theorem skip_state (n : Nat) (s : State) : (s.skip n).state = s.state := by rw [skip_frame]

@[simp] theorem skip_crc8En (n : Nat) (s : State) : (s.skip n).crc8En = s.crc8En := by rw [skip_frame]

@[simp] theorem skip_crc16En (n : Nat) (s : State) : (s.skip n).crc16En = s.crc16En := by rw [skip_frame]

@[simp] theorem skip_si (n : Nat) (s : State) : (s.skip n).si = s.si := by rw [skip_frame]

@[simp] theorem skip_fh (n : Nat) (s : State) : (s.skip n).fh = s.fh := by rw [skip_frame]

@[simp] theorem skip_sf (n : Nat) (s : State) : (s.skip n).sf = s.sf := by rw [skip_frame]

@[simp] theorem skip_lpc (n : Nat) (s : State) : (s.skip n).lpc = s.lpc := by rw [skip_frame]

@[simp] theorem skip_res (n : Nat) (s : State) : (s.skip n).res = s.res := by rw [skip_frame]

@[simp] theorem skip_sub (n : Nat) (s : State) : (s.skip n).sub = s.sub := by rw [skip_frame]

@[simp] theorem skip_subEarlier (n : Nat) (s : State) : (s.skip n).subEarlier = s.subEarlier := by rw [skip_frame]

@[simp] theorem skip_out (n : Nat) (s : State) : (s.skip n).out = s.out := by rw [skip_frame]

@[simp] theorem skip_err (n : Nat) (s : State) : (s.skip n).err = s.err := by rw [skip_frame]

@[simp] theorem skip_lastResult (n : Nat) (s : State) : (s.skip n).lastResult = s.lastResult := by rw [skip_frame]

@[simp] theorem skip_framesOk (n : Nat) (s : State) : (s.skip n).framesOk = s.framesOk := by rw [skip_frame]

@[simp] theorem skip_samplesOut (n : Nat) (s : State) : (s.skip n).samplesOut = s.samplesOut := by rw [skip_frame]

@[simp] theorem skip_md (n : Nat) (s : State) : (s.skip n).md = s.md := by rw [skip_frame]

@[simp] theorem skip_seq (n : Nat) (s : State) : (s.skip n).seq = s.seq := by rw [skip_frame]

@[simp] theorem skip_host (n : Nat) (s : State) : (s.skip n).host = s.host := by rw [skip_frame]

@[simp] theorem skip_metadataOut (n : Nat) (s : State) : (s.skip n).metadataOut = s.metadataOut := by rw [skip_frame]

@[simp] theorem skip_frameOut (n : Nat) (s : State) : (s.skip n).frameOut = s.frameOut := by rw [skip_frame]

end Machine

end Sys2Proof
end

