-- ==== Sys2Proof/Laws/Decode.lean ====
section
/-!
SUPPORT. The decoder's fields against the encoder's patterns.
-/

namespace Sys2Proof

/-- A field reads back the pattern written for it (R103). -/
theorem field_natToBits {n v : Nat} (h : v < 2 ^ n) (rest : Bits) :
    field n (natToBits n v ++ rest) = .ok (v, rest) := by
  unfold field
  rw [if_pos (by simp), List.take_left' (natToBits_length n v), List.drop_left' (natToBits_length n v),
    bitsToNat_natToBits, Nat.mod_eq_of_lt h]
  simp

theorem field_bit (b : Bool) (rest : Bits) : field 1 (b :: rest) = .ok (b.toNat, rest) := by
  cases b <;> rfl

end Sys2Proof
end

