-- ==== Sys2Proof/Laws/SampleRam.lean ====
section
/-!
SUPPORT. The sample RAMs: a read after a write, addresses, the canonical form, and each operation over them once.
-/

namespace Sys2Proof.Machine

theorem read_write_same (key : Nat) (v : Int) (ram : SampleRam) :
    SampleRam.read key (SampleRam.write key v ram) = some v := by
  induction ram with
  | nil => simp [SampleRam.write, SampleRam.read]
  | cons e rest ih =>
    obtain ⟨k, u⟩ := e
    simp only [SampleRam.write]
    split
    · simp [SampleRam.read]
    · split
      · simp [SampleRam.read]
      · rw [SampleRam.read, if_neg (by omega), ih]

theorem read_write_other {key key' : Nat} (h : key' ≠ key) (v : Int) (ram : SampleRam) :
    SampleRam.read key' (SampleRam.write key v ram) = SampleRam.read key' ram := by
  induction ram with
  | nil => simp [SampleRam.write, SampleRam.read, h.symm]
  | cons e rest ih =>
    obtain ⟨k, u⟩ := e
    simp only [SampleRam.write]
    split
    · simp [SampleRam.read, h.symm]
    · split
      · rename_i hk
        subst hk
        simp [SampleRam.read, h.symm]
      · simp only [SampleRam.read, ih]

/-- Different entries have different addresses. -/
theorem sampleKey_inj {c c' i i' : Nat} (hi : i < topBlock) (hi' : i' < topBlock)
    (h : sampleKey c i = sampleKey c' i') : c = c' ∧ i = i' := by
  simp only [sampleKey, topBlock] at *
  omega

theorem sampleKey_lt {c i : Nat} (hc : c < topChannels) (hi : i < topBlock) :
    sampleKey c i < topChannels * topBlock := by
  simp only [sampleKey, topChannels, topBlock] at *
  omega

theorem wf_cons {k : Nat} {v : Int} {rest : SampleRam} :
    SampleRam.wf ((k, v) :: rest) = true ↔
      k < topChannels * topBlock ∧ (∀ e ∈ rest.head?, k < e.1) ∧ SampleRam.wf rest = true := by
  match rest with
  | [] => simp [SampleRam.wf]
  | (k', v') :: r =>
    constructor
    · intro h
      simp only [SampleRam.wf, Bool.and_eq_true, decide_eq_true_eq] at h
      have hk' : k' < topChannels * topBlock := ((wf_cons (rest := r)).mp h.2).1
      exact ⟨by omega, by simp [h.1], h.2⟩
    · rintro ⟨_, h, h'⟩
      simp only [SampleRam.wf, Bool.and_eq_true, decide_eq_true_eq]
      exact ⟨by simpa using h, h'⟩

theorem write_head (key : Nat) (v : Int) (ram : SampleRam) :
    ∀ e ∈ (SampleRam.write key v ram).head?, e.1 = key ∨ ∃ e' ∈ ram.head?, e.1 = e'.1 ∧ e'.1 < key := by
  match ram with
  | [] => simp [SampleRam.write]
  | (k, u) :: rest =>
    simp only [SampleRam.write]
    split
    · simp
    · split
      · simp
      · rename_i h h'
        have : k < key := by omega
        simpa using Or.inr this

/-- A write keeps the canonical form. -/
theorem wf_write {key : Nat} {v : Int} {ram : SampleRam} (hk : key < topChannels * topBlock)
    (h : SampleRam.wf ram = true) : SampleRam.wf (SampleRam.write key v ram) = true := by
  induction ram with
  | nil => simpa [SampleRam.write, SampleRam.wf] using hk
  | cons e rest ih =>
    obtain ⟨k, u⟩ := e
    obtain ⟨h1, h2, h3⟩ := wf_cons.mp h
    simp only [SampleRam.write]
    split
    · rw [wf_cons]
      exact ⟨hk, by simpa using ‹key < k›, h⟩
    · split
      · rename_i hkk
        subst hkk
        exact wf_cons.mpr ⟨hk, h2, h3⟩
      · rw [wf_cons]
        refine ⟨h1, fun e he => ?_, ih h3⟩
        obtain h4 | ⟨e', he', h4, _⟩ := write_head key v rest e he
        · omega
        · have := h2 e' he'
          omega

/-! ### Frames -/

/-- Keys of a canonical list rise: what stands after an entry has another address. -/
theorem read_none_of_wf {k : Nat} {v : Int} {rest : SampleRam} (h : SampleRam.wf ((k, v) :: rest) = true) {key : Nat}
    (hk : key ≤ k) : SampleRam.read key rest = none := by
  induction rest generalizing k v with
  | nil => rfl
  | cons e rest ih =>
    obtain ⟨k', v'⟩ := e
    obtain ⟨_, h2, h3⟩ := wf_cons.mp h
    have hlt : k < k' := by simpa using h2
    rw [SampleRam.read, if_neg (by omega)]
    exact ih h3 (by omega)

/-- What a RAM written over another holds: its own value, else the other's. -/
theorem read_over {new : SampleRam} (h : SampleRam.wf new = true) (old : SampleRam) (key : Nat) :
    SampleRam.read key (new.over old) =
      match SampleRam.read key new with
      | some v => some v
      | none => SampleRam.read key old := by
  induction new generalizing old with
  | nil => rfl
  | cons e rest ih =>
    obtain ⟨k, v⟩ := e
    have hover : SampleRam.over ((k, v) :: rest) old = SampleRam.over rest (SampleRam.write k v old) := rfl
    rw [hover, ih (wf_cons.mp h).2.2]
    by_cases hk : key = k
    · subst hk
      rw [read_none_of_wf h le_rfl, SampleRam.read, if_pos rfl]
      exact read_write_same _ _ _
    · rw [SampleRam.read, if_neg (Ne.symm hk)]
      cases SampleRam.read key rest with
      | some _ => rfl
      | none => exact read_write_other hk v old

theorem wf_over {new old : SampleRam} (h : SampleRam.wf new = true) (ho : SampleRam.wf old = true) :
    SampleRam.wf (new.over old) = true := by
  induction new generalizing old with
  | nil => exact ho
  | cons e rest ih =>
    obtain ⟨h1, _, h3⟩ := wf_cons.mp h
    exact ih h3 (wf_write h1 ho)

/-- The start of a frame keeps the canonical form. -/
theorem newFrame_wf {s : State} (hw : Memory.wf s = true) : Memory.wf (newFrame s) = true := by
  simp only [Memory.wf, Bool.and_eq_true] at hw ⊢
  exact ⟨⟨rfl, wf_over hw.1.1 hw.1.2⟩, hw.2⟩

/-! ### The operations -/

/-- Everything MemRead does (R66). -/
theorem readSample_run (c i : Nat) (s : State) :
    readSample c i s =
      if sampleExists s.cfg c i then
        match SampleRam.read (sampleKey c i) s.sub with
        | some v => .ok v s
        | none => .error (.fault .unwrittenSample) s
      else .error (.fault .sampleAddress) s := by
  rw [readSample, bind_run, ask_run]
  by_cases h : sampleExists s.cfg c i
  · simp only [if_pos h, bind_run, ask_run]
    cases SampleRam.read (sampleKey c i) s.sub <;> rfl
  · simp only [if_neg h]
    rfl

/-- Everything MemWrite does (R66). -/
theorem writeSample_run (c i : Nat) (v : Int) (s : State) :
    writeSample c i v s =
      if sampleExists s.cfg c i then .ok () { s with sub := SampleRam.write (sampleKey c i) v s.sub }
      else .error (.fault .sampleAddress) s := by
  rw [writeSample, bind_run, ask_run]
  by_cases h : sampleExists s.cfg c i <;> simp only [h] <;> rfl

/-- Everything a write of `OUT` does (R258). -/
theorem writeOut_run (c i : Nat) (v : Int) (s : State) :
    writeOut c i v s =
      if sampleExists s.cfg c i then .ok () { s with out := SampleRam.write (sampleKey c i) v s.out }
      else .error (.fault .sampleAddress) s := by
  rw [writeOut, bind_run, ask_run]
  by_cases h : sampleExists s.cfg c i <;> simp only [h] <;> rfl

theorem sampleExists_iff {cfg : Config} {c i : Nat} :
    sampleExists cfg c i = true ↔ c < cfg.maxChannels.val ∧ i < cfg.maxBlock.val := by
  simp [sampleExists]

/-- An entry that exists has an address inside the sample RAM. -/
theorem sampleKey_lt_of_exists {cfg : Config} {c i : Nat} (h : sampleExists cfg c i = true) :
    sampleKey c i < topChannels * topBlock := by
  obtain ⟨hc, hi⟩ := sampleExists_iff.mp h
  exact sampleKey_lt (by have := cfg.maxChannels.isLt; simp only [topChannels]; omega)
    (by have := cfg.maxBlock.isLt; simp only [topBlock]; omega)

theorem writeSample_wf {c i : Nat} {v : Int} {s t : State} (h : writeSample c i v s = .ok () t)
    (hw : Memory.wf s = true) : Memory.wf t = true := by
  rw [writeSample_run] at h
  split at h
  · rename_i he
    cases h
    simp only [Memory.wf, Bool.and_eq_true] at hw ⊢
    exact ⟨⟨wf_write (sampleKey_lt_of_exists he) hw.1.1, hw.1.2⟩, hw.2⟩
  · cases h

theorem writeOut_wf {c i : Nat} {v : Int} {s t : State} (h : writeOut c i v s = .ok () t)
    (hw : Memory.wf s = true) : Memory.wf t = true := by
  rw [writeOut_run] at h
  split at h
  · rename_i he
    cases h
    simp only [Memory.wf, Bool.and_eq_true] at hw ⊢
    exact ⟨hw.1, wf_write (sampleKey_lt_of_exists he) hw.2⟩
  · cases h

theorem reset_wf : Memory.wf State.reset = true := by decide

end Sys2Proof.Machine
end

