-- ==== Sys2Proof/Laws/Loops.lean ====
section
/-!
SUPPORT. The loops, each induction once: what holds before every turn holds after the last one, or a turn has ended the
command. And the two turns of the channel loop, CHECK_WIDTH and the subframe type.
-/

namespace Sys2Proof.Machine

/-- A loop over indexes: P holds before each turn; a turn that does not answer leaves E. -/
theorem forRange_rule {P : Nat → State → Prop} {E : Stop → State → Prop} {f : Nat → M Unit} {start n : Nat} {s : State}
    (turn : ∀ i t, start ≤ i → i < start + n → P i t →
      (∃ u, f i t = .ok () u ∧ P (i + 1) u) ∨ ∃ e u, f i t = .error e u ∧ E e u)
    (first : P start s) :
    (∃ u, forRange start n f s = .ok () u ∧ P (start + n) u) ∨ ∃ e u, forRange start n f s = .error e u ∧ E e u := by
  induction n generalizing start s with
  | zero => exact .inl ⟨s, rfl, first⟩
  | succ n ih =>
    obtain ⟨u, hu, hp⟩ | ⟨e, u, hu, he⟩ := turn start s le_rfl (by omega) first
    · obtain ⟨w, hw, hq⟩ | ⟨e, w, hw, he⟩ := ih (fun i t h h' => turn i t (by omega) (by omega)) hp
      · exact .inl ⟨w, by rw [forRange, bind_ok hu, hw], by rwa [Nat.add_right_comm] at hq⟩
      · exact .inr ⟨e, w, by rw [forRange, bind_ok hu, hw], he⟩
    · exact .inr ⟨e, u, by rw [forRange, bind_error hu], he⟩

/-- A loop all of whose turns answer. -/
theorem forRange_ok {P : Nat → State → Prop} {f : Nat → M Unit} {start n : Nat} {s : State}
    (turn : ∀ i t, start ≤ i → i < start + n → P i t → ∃ u, f i t = .ok () u ∧ P (i + 1) u) (first : P start s) :
    ∃ u, forRange start n f s = .ok () u ∧ P (start + n) u := by
  obtain h | ⟨_, _, _, h⟩ := forRange_rule (E := fun _ _ => False) (fun i t h h' hp => .inl (turn i t h h' hp)) first
  · exact h
  · exact h.elim

/-- A run of values into a row: P holds before each value is read, and after it the value's entry exists; a read that does not
answer leaves E. -/
theorem readSamples_rule {P : Nat → State → Prop} {E : Stop → State → Prop} {c : Nat} {read : M Int} {start n : Nat}
    {s : State} (entry : ∀ i t, start ≤ i → i < start + n → P (i + 1) t → sampleExists t.cfg c i = true)
    (turn : ∀ i t, start ≤ i → i < start + n → P i t →
      (∃ v u, read t = .ok v u ∧ P (i + 1) { u with sub := SampleRam.write (sampleKey c i) v u.sub }) ∨
        ∃ e u, read t = .error e u ∧ E e u)
    (first : P start s) :
    (∃ u, readSamples c read start n s = .ok () u ∧ P (start + n) u) ∨
      ∃ e u, readSamples c read start n s = .error e u ∧ E e u := by
  induction n generalizing start s with
  | zero => exact .inl ⟨s, rfl, first⟩
  | succ n ih =>
    obtain ⟨v, u, hu, hp⟩ | ⟨e, u, hu, he⟩ := turn start s le_rfl (by omega) first
    · have hwrite : writeSample c start v u = .ok () { u with sub := SampleRam.write (sampleKey c start) v u.sub } := by
        rw [writeSample_run, if_pos (entry start _ le_rfl (by omega) hp)]
      obtain ⟨w, hw, hq⟩ | ⟨e, w, hw, he⟩ := ih (fun i t h h' => entry i t (by omega) (by omega))
        (fun i t h h' => turn i t (by omega) (by omega)) hp
      · exact .inl ⟨w, by rw [readSamples, bind_ok hu, bind_ok hwrite, hw], by rwa [Nat.add_right_comm] at hq⟩
      · exact .inr ⟨e, w, by rw [readSamples, bind_ok hu, bind_ok hwrite, hw], he⟩
    · exact .inr ⟨e, u, by rw [readSamples, bind_error hu], he⟩

/-- A prediction sum over entries that hold the values x changes nothing. -/
theorem historySum_run {c : Nat} {s : State} {x : Nat → Int} (hc : c < s.cfg.maxChannels.val) (coefs : List Int)
    (i : Nat) (hi : i ≤ s.cfg.maxBlock.val) (hp : coefs.length ≤ i)
    (held : ∀ j < coefs.length, SampleRam.read (sampleKey c (i - 1 - j)) s.sub = some (x (i - 1 - j))) :
    historySum c coefs i s = .ok ((coefs.mapIdx fun j q => q * x (i - 1 - j)).sum) s := by
  induction coefs generalizing i with
  | nil => rfl
  | cons q qs ih =>
    simp only [List.length_cons] at hp held
    have h0 := held 0 (by omega)
    have hread : readSample c (i - 1) s = .ok (x (i - 1)) s := by
      rw [readSample_run, if_pos (sampleExists_iff.mpr ⟨hc, by omega⟩)]
      simp only [Nat.sub_zero] at h0
      rw [h0]
    have hrest := ih (i - 1) (by omega) (by omega) (fun j hj => by
      have := held (j + 1) (by omega)
      rwa [show i - 1 - (j + 1) = i - 1 - 1 - j by omega] at this)
    rw [historySum, bind_ok hread, bind_ok hrest]
    have hidx : (fun (j : Nat) (q : Int) => q * x (i - 1 - (j + 1))) = fun j q => q * x (i - 1 - 1 - j) := by
      funext j q
      rw [show i - 1 - (j + 1) = i - 1 - 1 - j by omega]
    simp only [pure_run, List.mapIdx_cons, List.sum_cons, Nat.sub_zero]
    rw [hidx]

/-- A command's run: elements that each answer, each with less left to do, until one ends the command in Q. -/
theorem drain_ends {P Q : State → Prop} {m : State → Nat}
    (element : ∀ s, P s → s.seq.pos ≠ .host → ∃ t, elementStep s = .next t ∧
      (t.seq.pos = .host ∧ Q t ∨ t.seq.pos ≠ .host ∧ P t ∧ m t < m s))
    (fuel : Nat) (s : State) (hp : P s) (hs : s.seq.pos ≠ .host) (hm : m s < fuel) :
    ∃ t, drain fuel s = .next t ∧ t.seq.pos = .host ∧ Q t := by
  induction fuel generalizing s with
  | zero => omega
  | succ fuel ih =>
    obtain ⟨t, ht, h⟩ := element s hp hs
    have hd : drain (fuel + 1) s = drain fuel t := by rw [drain, if_neg hs, ht]
    rw [hd]
    obtain ⟨hpos, hq⟩ | ⟨hpos, hpt, hlt⟩ := h
    · refine ⟨t, ?_, hpos, hq⟩
      cases fuel with
      | zero => rfl
      | succ k => rw [drain, if_pos hpos]
    · exact ih t hpt hpos (by omega)

/-- The channel loop's turn for a channel of the frame (R200). -/
theorem startChannel_next {c : Nat} {s : State} (h : c < s.fh.channels.toNat) :
    startChannel c s = .ok () (s.atSubframe c) := by
  have hside : (isSide s.fh.assign c).toNat =
      if s.fh.assign = .leftSide ∧ c = 1 ∨ s.fh.assign = .rightSide ∧ c = 0 ∨ s.fh.assign = .middleSide ∧ c = 1 then 1
      else 0 := by
    cases s.fh.assign <;> by_cases h0 : c = 0 <;> by_cases h1 : c = 1 <;> simp_all [isSide]
  rw [startChannel, bind_run, ask_run]
  simp only [if_pos h, bind_run, update_run, goto_run, State.atSubframe, fullWidth, hside]

/-- The channel loop's end (R200, R275 step 7). -/
theorem startChannel_end {c : Nat} {s : State} (h : s.fh.channels.toNat ≤ c) : startChannel c s = finishChannels s := by
  rw [startChannel, bind_run, ask_run]
  simp only [if_neg (Nat.not_lt.mpr h)]

/-- CHECK_WIDTH (R135). -/
theorem checkWidth_run (n sub : Nat) (s : State) :
    checkWidth n sub s =
      if 1 ≤ n ∧ n ≤ s.cfg.maxReadWidth then .ok () s else .error .ended (errorEntry .widthOutOfRange sub 0 s) := by
  rw [checkWidth, bind_run, ask_run]
  simp only [raiseIf_run, decide_eq_true_eq]
  by_cases h : 1 ≤ n ∧ n ≤ s.cfg.maxReadWidth
  · rw [if_neg (by omega), if_pos h]
  · rw [if_pos (by omega), if_neg h]

/-- The types of the FIXED orders up to the configured one (R202). -/
theorem subframeKindOf_fixed {cfg : Config} {p : Nat} (h : p ≤ cfg.maxFixedOrder.val) :
    subframeKindOf cfg (8 + p) = some (.fixed, p) := by
  rw [subframeKindOf, if_neg (by omega), if_neg (by omega), if_pos (by omega), Nat.add_sub_cancel_left]

/-- The types of the LPC orders up to the configured one (R202). -/
theorem subframeKindOf_lpc {cfg : Config} {p : Nat} (hp : 1 ≤ p) (h : p ≤ cfg.maxLpcOrder.val) :
    subframeKindOf cfg (31 + p) = some (.lpc, p) := by
  have := cfg.maxFixedOrder.isLt
  rw [subframeKindOf, if_neg (by omega), if_neg (by omega), if_neg (by omega), if_pos (by omega), Nat.add_sub_cancel_left]

/-- Every other type selects nothing: the reserved ones, and those past a configured order (R202, log entry 7). -/
theorem subframeKindOf_none {cfg : Config} {type : Nat} (h : 2 ≤ type)
    (fixed : type < 8 ∨ 8 + cfg.maxFixedOrder.val < type) (lpc : type < 32 ∨ 31 + cfg.maxLpcOrder.val < type) :
    subframeKindOf cfg type = none := by
  rw [subframeKindOf, if_neg (by omega), if_neg (by omega), if_neg (by omega), if_neg (by omega)]

/-- Everything the subframe type does once its six bits are read (R202). -/
theorem subframeType_run {type : Nat} {s t : State} (h : skipBits 6 s = .ok () t) :
    subframeType type s =
      (let u : State := { t with sf.type := BitVec.ofNat 6 type }
       match subframeKindOf t.cfg type with
       | some (kind, order) => .ok () { u with sf.kind := kind, sf.order := BitVec.ofNat 6 order }
       | none => .error .ended (errorEntry .invalidSubframeType 0 0 u)) := by
  rw [subframeType, bind_ok h, bind_run, update_run]
  simp only [bind_run, ask_run]
  cases subframeKindOf t.cfg type <;> rfl

end Sys2Proof.Machine
end

