-- ==== Sys2Proof/Laws/PerInstr.lean ====
section
/-!
SUPPORT. A statement about every instruction as syntax, one lemma per constructor.
-/

set_option Elab.async false

/-- An element is at most 32 bits long, so the 32 bits the sequencer looks at hold it whole, and no element but the
padding is empty, so every other element moves the cursor. -/
def Sys2Proof.Laws.EncodingLength.Statement (i : Sys2Proof.Instr) : Prop :=
  i.wellFormed = true → i.encode.length ≤ 32 ∧ (i.position = .pad ∨ 0 < i.encode.length)

theorem Sys2Proof.Laws.EncodingLength.cmdReset :
    Sys2Proof.Laws.EncodingLength.Statement .cmdReset := by
  intro _
  simp [Sys2Proof.Instr.encode]

theorem Sys2Proof.Laws.EncodingLength.cmdOpen :
    Sys2Proof.Laws.EncodingLength.Statement .cmdOpen := by
  intro _
  simp [Sys2Proof.Instr.encode]

theorem Sys2Proof.Laws.EncodingLength.cmdPull :
    Sys2Proof.Laws.EncodingLength.Statement .cmdPull := by
  intro _
  simp [Sys2Proof.Instr.encode]

theorem Sys2Proof.Laws.EncodingLength.cmdReserved3 :
    Sys2Proof.Laws.EncodingLength.Statement .cmdReserved3 := by
  intro _
  simp [Sys2Proof.Instr.encode]

theorem Sys2Proof.Laws.EncodingLength.marker (m : BitVec 32) :
    Sys2Proof.Laws.EncodingLength.Statement (.marker m) := by
  intro _
  simp [Sys2Proof.Instr.encode]

theorem Sys2Proof.Laws.EncodingLength.mdStreaminfo (last : Bool) (len : BitVec 24) :
    Sys2Proof.Laws.EncodingLength.Statement (.mdStreaminfo last len) := by
  intro _
  simp [Sys2Proof.Instr.encode]

theorem Sys2Proof.Laws.EncodingLength.mdPadding (last : Bool) (len : BitVec 24) :
    Sys2Proof.Laws.EncodingLength.Statement (.mdPadding last len) := by
  intro _
  simp [Sys2Proof.Instr.encode]

theorem Sys2Proof.Laws.EncodingLength.mdApplication (last : Bool) (len : BitVec 24) :
    Sys2Proof.Laws.EncodingLength.Statement (.mdApplication last len) := by
  intro _
  simp [Sys2Proof.Instr.encode]

theorem Sys2Proof.Laws.EncodingLength.mdSeektable (last : Bool) (len : BitVec 24) :
    Sys2Proof.Laws.EncodingLength.Statement (.mdSeektable last len) := by
  intro _
  simp [Sys2Proof.Instr.encode]

theorem Sys2Proof.Laws.EncodingLength.mdVorbisComment (last : Bool) (len : BitVec 24) :
    Sys2Proof.Laws.EncodingLength.Statement (.mdVorbisComment last len) := by
  intro _
  simp [Sys2Proof.Instr.encode]

theorem Sys2Proof.Laws.EncodingLength.mdCuesheet (last : Bool) (len : BitVec 24) :
    Sys2Proof.Laws.EncodingLength.Statement (.mdCuesheet last len) := by
  intro _
  simp [Sys2Proof.Instr.encode]

theorem Sys2Proof.Laws.EncodingLength.mdPicture (last : Bool) (len : BitVec 24) :
    Sys2Proof.Laws.EncodingLength.Statement (.mdPicture last len) := by
  intro _
  simp [Sys2Proof.Instr.encode]

theorem Sys2Proof.Laws.EncodingLength.mdUnknownTypes7To7 (last : Bool) (len : BitVec 24) :
    Sys2Proof.Laws.EncodingLength.Statement (.mdUnknownTypes7To7 last len) := by
  intro _
  simp [Sys2Proof.Instr.encode]

theorem Sys2Proof.Laws.EncodingLength.mdUnknownTypes8To15 (last : Bool) (t : BitVec 3) (len : BitVec 24) :
    Sys2Proof.Laws.EncodingLength.Statement (.mdUnknownTypes8To15 last t len) := by
  intro _
  simp [Sys2Proof.Instr.encode]

theorem Sys2Proof.Laws.EncodingLength.mdUnknownTypes16To31 (last : Bool) (t : BitVec 4) (len : BitVec 24) :
    Sys2Proof.Laws.EncodingLength.Statement (.mdUnknownTypes16To31 last t len) := by
  intro _
  simp [Sys2Proof.Instr.encode]

theorem Sys2Proof.Laws.EncodingLength.mdUnknownTypes32To63 (last : Bool) (t : BitVec 5) (len : BitVec 24) :
    Sys2Proof.Laws.EncodingLength.Statement (.mdUnknownTypes32To63 last t len) := by
  intro _
  simp [Sys2Proof.Instr.encode]

theorem Sys2Proof.Laws.EncodingLength.mdUnknownTypes64To127 (last : Bool) (t : BitVec 6) (len : BitVec 24) :
    Sys2Proof.Laws.EncodingLength.Statement (.mdUnknownTypes64To127 last t len) := by
  intro _
  simp [Sys2Proof.Instr.encode]

theorem Sys2Proof.Laws.EncodingLength.fhBlocking0 :
    Sys2Proof.Laws.EncodingLength.Statement .fhBlocking0 := by
  intro _
  simp [Sys2Proof.Instr.encode]

theorem Sys2Proof.Laws.EncodingLength.fhBlocking1 :
    Sys2Proof.Laws.EncodingLength.Statement .fhBlocking1 := by
  intro _
  simp [Sys2Proof.Instr.encode]

theorem Sys2Proof.Laws.EncodingLength.fhBadSync (sync : BitVec 14) :
    Sys2Proof.Laws.EncodingLength.Statement (.fhBadSync sync) := by
  intro _
  simp [Sys2Proof.Instr.encode]

theorem Sys2Proof.Laws.EncodingLength.fhReservedA1 :
    Sys2Proof.Laws.EncodingLength.Statement .fhReservedA1 := by
  intro _
  simp [Sys2Proof.Instr.encode]

theorem Sys2Proof.Laws.EncodingLength.fhReservedB1 (bps : BitVec 3) :
    Sys2Proof.Laws.EncodingLength.Statement (.fhReservedB1 bps) := by
  intro _
  simp [Sys2Proof.Instr.encode]

theorem Sys2Proof.Laws.EncodingLength.fhBs0 :
    Sys2Proof.Laws.EncodingLength.Statement .fhBs0 := by
  intro _
  simp [Sys2Proof.Instr.encode]

theorem Sys2Proof.Laws.EncodingLength.fhBs1 :
    Sys2Proof.Laws.EncodingLength.Statement .fhBs1 := by
  intro _
  simp [Sys2Proof.Instr.encode]

theorem Sys2Proof.Laws.EncodingLength.fhBs2 :
    Sys2Proof.Laws.EncodingLength.Statement .fhBs2 := by
  intro _
  simp [Sys2Proof.Instr.encode]

theorem Sys2Proof.Laws.EncodingLength.fhBs3 :
    Sys2Proof.Laws.EncodingLength.Statement .fhBs3 := by
  intro _
  simp [Sys2Proof.Instr.encode]

theorem Sys2Proof.Laws.EncodingLength.fhBs4 :
    Sys2Proof.Laws.EncodingLength.Statement .fhBs4 := by
  intro _
  simp [Sys2Proof.Instr.encode]

theorem Sys2Proof.Laws.EncodingLength.fhBs5 :
    Sys2Proof.Laws.EncodingLength.Statement .fhBs5 := by
  intro _
  simp [Sys2Proof.Instr.encode]

theorem Sys2Proof.Laws.EncodingLength.fhBs6 :
    Sys2Proof.Laws.EncodingLength.Statement .fhBs6 := by
  intro _
  simp [Sys2Proof.Instr.encode]

theorem Sys2Proof.Laws.EncodingLength.fhBs7 :
    Sys2Proof.Laws.EncodingLength.Statement .fhBs7 := by
  intro _
  simp [Sys2Proof.Instr.encode]

theorem Sys2Proof.Laws.EncodingLength.fhBs8 :
    Sys2Proof.Laws.EncodingLength.Statement .fhBs8 := by
  intro _
  simp [Sys2Proof.Instr.encode]

theorem Sys2Proof.Laws.EncodingLength.fhBs9 :
    Sys2Proof.Laws.EncodingLength.Statement .fhBs9 := by
  intro _
  simp [Sys2Proof.Instr.encode]

theorem Sys2Proof.Laws.EncodingLength.fhBs10 :
    Sys2Proof.Laws.EncodingLength.Statement .fhBs10 := by
  intro _
  simp [Sys2Proof.Instr.encode]

theorem Sys2Proof.Laws.EncodingLength.fhBs11 :
    Sys2Proof.Laws.EncodingLength.Statement .fhBs11 := by
  intro _
  simp [Sys2Proof.Instr.encode]

theorem Sys2Proof.Laws.EncodingLength.fhBs12 :
    Sys2Proof.Laws.EncodingLength.Statement .fhBs12 := by
  intro _
  simp [Sys2Proof.Instr.encode]

theorem Sys2Proof.Laws.EncodingLength.fhBs13 :
    Sys2Proof.Laws.EncodingLength.Statement .fhBs13 := by
  intro _
  simp [Sys2Proof.Instr.encode]

theorem Sys2Proof.Laws.EncodingLength.fhBs14 :
    Sys2Proof.Laws.EncodingLength.Statement .fhBs14 := by
  intro _
  simp [Sys2Proof.Instr.encode]

theorem Sys2Proof.Laws.EncodingLength.fhBs15 :
    Sys2Proof.Laws.EncodingLength.Statement .fhBs15 := by
  intro _
  simp [Sys2Proof.Instr.encode]

theorem Sys2Proof.Laws.EncodingLength.fhSr0 :
    Sys2Proof.Laws.EncodingLength.Statement .fhSr0 := by
  intro _
  simp [Sys2Proof.Instr.encode]

theorem Sys2Proof.Laws.EncodingLength.fhSr1 :
    Sys2Proof.Laws.EncodingLength.Statement .fhSr1 := by
  intro _
  simp [Sys2Proof.Instr.encode]

theorem Sys2Proof.Laws.EncodingLength.fhSr2 :
    Sys2Proof.Laws.EncodingLength.Statement .fhSr2 := by
  intro _
  simp [Sys2Proof.Instr.encode]

theorem Sys2Proof.Laws.EncodingLength.fhSr3 :
    Sys2Proof.Laws.EncodingLength.Statement .fhSr3 := by
  intro _
  simp [Sys2Proof.Instr.encode]

theorem Sys2Proof.Laws.EncodingLength.fhSr4 :
    Sys2Proof.Laws.EncodingLength.Statement .fhSr4 := by
  intro _
  simp [Sys2Proof.Instr.encode]

theorem Sys2Proof.Laws.EncodingLength.fhSr5 :
    Sys2Proof.Laws.EncodingLength.Statement .fhSr5 := by
  intro _
  simp [Sys2Proof.Instr.encode]

theorem Sys2Proof.Laws.EncodingLength.fhSr6 :
    Sys2Proof.Laws.EncodingLength.Statement .fhSr6 := by
  intro _
  simp [Sys2Proof.Instr.encode]

theorem Sys2Proof.Laws.EncodingLength.fhSr7 :
    Sys2Proof.Laws.EncodingLength.Statement .fhSr7 := by
  intro _
  simp [Sys2Proof.Instr.encode]

theorem Sys2Proof.Laws.EncodingLength.fhSr8 :
    Sys2Proof.Laws.EncodingLength.Statement .fhSr8 := by
  intro _
  simp [Sys2Proof.Instr.encode]

theorem Sys2Proof.Laws.EncodingLength.fhSr9 :
    Sys2Proof.Laws.EncodingLength.Statement .fhSr9 := by
  intro _
  simp [Sys2Proof.Instr.encode]

theorem Sys2Proof.Laws.EncodingLength.fhSr10 :
    Sys2Proof.Laws.EncodingLength.Statement .fhSr10 := by
  intro _
  simp [Sys2Proof.Instr.encode]

theorem Sys2Proof.Laws.EncodingLength.fhSr11 :
    Sys2Proof.Laws.EncodingLength.Statement .fhSr11 := by
  intro _
  simp [Sys2Proof.Instr.encode]

theorem Sys2Proof.Laws.EncodingLength.fhSr12 :
    Sys2Proof.Laws.EncodingLength.Statement .fhSr12 := by
  intro _
  simp [Sys2Proof.Instr.encode]

theorem Sys2Proof.Laws.EncodingLength.fhSr13 :
    Sys2Proof.Laws.EncodingLength.Statement .fhSr13 := by
  intro _
  simp [Sys2Proof.Instr.encode]

theorem Sys2Proof.Laws.EncodingLength.fhSr14 :
    Sys2Proof.Laws.EncodingLength.Statement .fhSr14 := by
  intro _
  simp [Sys2Proof.Instr.encode]

theorem Sys2Proof.Laws.EncodingLength.fhSr15 :
    Sys2Proof.Laws.EncodingLength.Statement .fhSr15 := by
  intro _
  simp [Sys2Proof.Instr.encode]

theorem Sys2Proof.Laws.EncodingLength.fhCh0 :
    Sys2Proof.Laws.EncodingLength.Statement .fhCh0 := by
  intro _
  simp [Sys2Proof.Instr.encode]

theorem Sys2Proof.Laws.EncodingLength.fhCh1 :
    Sys2Proof.Laws.EncodingLength.Statement .fhCh1 := by
  intro _
  simp [Sys2Proof.Instr.encode]

theorem Sys2Proof.Laws.EncodingLength.fhCh2 :
    Sys2Proof.Laws.EncodingLength.Statement .fhCh2 := by
  intro _
  simp [Sys2Proof.Instr.encode]

theorem Sys2Proof.Laws.EncodingLength.fhCh3 :
    Sys2Proof.Laws.EncodingLength.Statement .fhCh3 := by
  intro _
  simp [Sys2Proof.Instr.encode]

theorem Sys2Proof.Laws.EncodingLength.fhCh4 :
    Sys2Proof.Laws.EncodingLength.Statement .fhCh4 := by
  intro _
  simp [Sys2Proof.Instr.encode]

theorem Sys2Proof.Laws.EncodingLength.fhCh5 :
    Sys2Proof.Laws.EncodingLength.Statement .fhCh5 := by
  intro _
  simp [Sys2Proof.Instr.encode]

theorem Sys2Proof.Laws.EncodingLength.fhCh6 :
    Sys2Proof.Laws.EncodingLength.Statement .fhCh6 := by
  intro _
  simp [Sys2Proof.Instr.encode]

theorem Sys2Proof.Laws.EncodingLength.fhCh7 :
    Sys2Proof.Laws.EncodingLength.Statement .fhCh7 := by
  intro _
  simp [Sys2Proof.Instr.encode]

theorem Sys2Proof.Laws.EncodingLength.fhCh8 :
    Sys2Proof.Laws.EncodingLength.Statement .fhCh8 := by
  intro _
  simp [Sys2Proof.Instr.encode]

theorem Sys2Proof.Laws.EncodingLength.fhCh9 :
    Sys2Proof.Laws.EncodingLength.Statement .fhCh9 := by
  intro _
  simp [Sys2Proof.Instr.encode]

theorem Sys2Proof.Laws.EncodingLength.fhCh10 :
    Sys2Proof.Laws.EncodingLength.Statement .fhCh10 := by
  intro _
  simp [Sys2Proof.Instr.encode]

theorem Sys2Proof.Laws.EncodingLength.fhCh11 :
    Sys2Proof.Laws.EncodingLength.Statement .fhCh11 := by
  intro _
  simp [Sys2Proof.Instr.encode]

theorem Sys2Proof.Laws.EncodingLength.fhCh12 :
    Sys2Proof.Laws.EncodingLength.Statement .fhCh12 := by
  intro _
  simp [Sys2Proof.Instr.encode]

theorem Sys2Proof.Laws.EncodingLength.fhCh13 :
    Sys2Proof.Laws.EncodingLength.Statement .fhCh13 := by
  intro _
  simp [Sys2Proof.Instr.encode]

theorem Sys2Proof.Laws.EncodingLength.fhCh14 :
    Sys2Proof.Laws.EncodingLength.Statement .fhCh14 := by
  intro _
  simp [Sys2Proof.Instr.encode]

theorem Sys2Proof.Laws.EncodingLength.fhCh15 :
    Sys2Proof.Laws.EncodingLength.Statement .fhCh15 := by
  intro _
  simp [Sys2Proof.Instr.encode]

theorem Sys2Proof.Laws.EncodingLength.fhBps0 :
    Sys2Proof.Laws.EncodingLength.Statement .fhBps0 := by
  intro _
  simp [Sys2Proof.Instr.encode]

theorem Sys2Proof.Laws.EncodingLength.fhBps1 :
    Sys2Proof.Laws.EncodingLength.Statement .fhBps1 := by
  intro _
  simp [Sys2Proof.Instr.encode]

theorem Sys2Proof.Laws.EncodingLength.fhBps2 :
    Sys2Proof.Laws.EncodingLength.Statement .fhBps2 := by
  intro _
  simp [Sys2Proof.Instr.encode]

theorem Sys2Proof.Laws.EncodingLength.fhBps3 :
    Sys2Proof.Laws.EncodingLength.Statement .fhBps3 := by
  intro _
  simp [Sys2Proof.Instr.encode]

theorem Sys2Proof.Laws.EncodingLength.fhBps4 :
    Sys2Proof.Laws.EncodingLength.Statement .fhBps4 := by
  intro _
  simp [Sys2Proof.Instr.encode]

theorem Sys2Proof.Laws.EncodingLength.fhBps5 :
    Sys2Proof.Laws.EncodingLength.Statement .fhBps5 := by
  intro _
  simp [Sys2Proof.Instr.encode]

theorem Sys2Proof.Laws.EncodingLength.fhBps6 :
    Sys2Proof.Laws.EncodingLength.Statement .fhBps6 := by
  intro _
  simp [Sys2Proof.Instr.encode]

theorem Sys2Proof.Laws.EncodingLength.fhBps7 :
    Sys2Proof.Laws.EncodingLength.Statement .fhBps7 := by
  intro _
  simp [Sys2Proof.Instr.encode]

theorem Sys2Proof.Laws.EncodingLength.numLead00 (x : BitVec 7) :
    Sys2Proof.Laws.EncodingLength.Statement (.numLead00 x) := by
  intro _
  simp [Sys2Proof.Instr.encode]

theorem Sys2Proof.Laws.EncodingLength.numLead80 (x : BitVec 6) :
    Sys2Proof.Laws.EncodingLength.Statement (.numLead80 x) := by
  intro _
  simp [Sys2Proof.Instr.encode]

theorem Sys2Proof.Laws.EncodingLength.numLeadC0 (x : BitVec 5) :
    Sys2Proof.Laws.EncodingLength.Statement (.numLeadC0 x) := by
  intro _
  simp [Sys2Proof.Instr.encode]

theorem Sys2Proof.Laws.EncodingLength.numLeadE0 (x : BitVec 4) :
    Sys2Proof.Laws.EncodingLength.Statement (.numLeadE0 x) := by
  intro _
  simp [Sys2Proof.Instr.encode]

theorem Sys2Proof.Laws.EncodingLength.numLeadF0 (x : BitVec 3) :
    Sys2Proof.Laws.EncodingLength.Statement (.numLeadF0 x) := by
  intro _
  simp [Sys2Proof.Instr.encode]

theorem Sys2Proof.Laws.EncodingLength.numLeadF8 (x : BitVec 2) :
    Sys2Proof.Laws.EncodingLength.Statement (.numLeadF8 x) := by
  intro _
  simp [Sys2Proof.Instr.encode]

theorem Sys2Proof.Laws.EncodingLength.numLeadFC (x : BitVec 1) :
    Sys2Proof.Laws.EncodingLength.Statement (.numLeadFC x) := by
  intro _
  simp [Sys2Proof.Instr.encode]

theorem Sys2Proof.Laws.EncodingLength.numLeadFE :
    Sys2Proof.Laws.EncodingLength.Statement .numLeadFE := by
  intro _
  simp [Sys2Proof.Instr.encode]

theorem Sys2Proof.Laws.EncodingLength.numLeadFF :
    Sys2Proof.Laws.EncodingLength.Statement .numLeadFF := by
  intro _
  simp [Sys2Proof.Instr.encode]

theorem Sys2Proof.Laws.EncodingLength.numContinuation (c : BitVec 8) :
    Sys2Proof.Laws.EncodingLength.Statement (.numContinuation c) := by
  intro _
  simp [Sys2Proof.Instr.encode]

theorem Sys2Proof.Laws.EncodingLength.bs8 (t : BitVec 8) :
    Sys2Proof.Laws.EncodingLength.Statement (.bs8 t) := by
  intro _
  simp [Sys2Proof.Instr.encode]

theorem Sys2Proof.Laws.EncodingLength.bs16 (t : BitVec 16) :
    Sys2Proof.Laws.EncodingLength.Statement (.bs16 t) := by
  intro _
  simp [Sys2Proof.Instr.encode]

theorem Sys2Proof.Laws.EncodingLength.sr8 (t : BitVec 8) :
    Sys2Proof.Laws.EncodingLength.Statement (.sr8 t) := by
  intro _
  simp [Sys2Proof.Instr.encode]

theorem Sys2Proof.Laws.EncodingLength.sr16 (t : BitVec 16) :
    Sys2Proof.Laws.EncodingLength.Statement (.sr16 t) := by
  intro _
  simp [Sys2Proof.Instr.encode]

theorem Sys2Proof.Laws.EncodingLength.sr16x10 (t : BitVec 16) :
    Sys2Proof.Laws.EncodingLength.Statement (.sr16x10 t) := by
  intro _
  simp [Sys2Proof.Instr.encode]

theorem Sys2Proof.Laws.EncodingLength.crc8 (crc : BitVec 8) :
    Sys2Proof.Laws.EncodingLength.Statement (.crc8 crc) := by
  intro _
  simp [Sys2Proof.Instr.encode]

theorem Sys2Proof.Laws.EncodingLength.sfReserved1 :
    Sys2Proof.Laws.EncodingLength.Statement .sfReserved1 := by
  intro _
  simp [Sys2Proof.Instr.encode]

theorem Sys2Proof.Laws.EncodingLength.sfConstant (wasted : Bool) :
    Sys2Proof.Laws.EncodingLength.Statement (.sfConstant wasted) := by
  intro _
  simp [Sys2Proof.Instr.encode]

theorem Sys2Proof.Laws.EncodingLength.sfVerbatim (wasted : Bool) :
    Sys2Proof.Laws.EncodingLength.Statement (.sfVerbatim wasted) := by
  intro _
  simp [Sys2Proof.Instr.encode]

theorem Sys2Proof.Laws.EncodingLength.sfReservedTypes2To3 (x : BitVec 1) :
    Sys2Proof.Laws.EncodingLength.Statement (.sfReservedTypes2To3 x) := by
  intro _
  simp [Sys2Proof.Instr.encode]

theorem Sys2Proof.Laws.EncodingLength.sfReservedTypes4To7 (x : BitVec 2) :
    Sys2Proof.Laws.EncodingLength.Statement (.sfReservedTypes4To7 x) := by
  intro _
  simp [Sys2Proof.Instr.encode]

theorem Sys2Proof.Laws.EncodingLength.sfFixed0 (wasted : Bool) :
    Sys2Proof.Laws.EncodingLength.Statement (.sfFixed0 wasted) := by
  intro _
  simp [Sys2Proof.Instr.encode]

theorem Sys2Proof.Laws.EncodingLength.sfFixed1 (wasted : Bool) :
    Sys2Proof.Laws.EncodingLength.Statement (.sfFixed1 wasted) := by
  intro _
  simp [Sys2Proof.Instr.encode]

theorem Sys2Proof.Laws.EncodingLength.sfFixed2 (wasted : Bool) :
    Sys2Proof.Laws.EncodingLength.Statement (.sfFixed2 wasted) := by
  intro _
  simp [Sys2Proof.Instr.encode]

theorem Sys2Proof.Laws.EncodingLength.sfFixed3 (wasted : Bool) :
    Sys2Proof.Laws.EncodingLength.Statement (.sfFixed3 wasted) := by
  intro _
  simp [Sys2Proof.Instr.encode]

theorem Sys2Proof.Laws.EncodingLength.sfFixed4 (wasted : Bool) :
    Sys2Proof.Laws.EncodingLength.Statement (.sfFixed4 wasted) := by
  intro _
  simp [Sys2Proof.Instr.encode]

theorem Sys2Proof.Laws.EncodingLength.sfReservedType13 :
    Sys2Proof.Laws.EncodingLength.Statement .sfReservedType13 := by
  intro _
  simp [Sys2Proof.Instr.encode]

theorem Sys2Proof.Laws.EncodingLength.sfReservedTypes14To15 (x : BitVec 1) :
    Sys2Proof.Laws.EncodingLength.Statement (.sfReservedTypes14To15 x) := by
  intro _
  simp [Sys2Proof.Instr.encode]

theorem Sys2Proof.Laws.EncodingLength.sfReservedTypes16To31 (x : BitVec 4) :
    Sys2Proof.Laws.EncodingLength.Statement (.sfReservedTypes16To31 x) := by
  intro _
  simp [Sys2Proof.Instr.encode]

theorem Sys2Proof.Laws.EncodingLength.sfLpc1 (wasted : Bool) :
    Sys2Proof.Laws.EncodingLength.Statement (.sfLpc1 wasted) := by
  intro _
  simp [Sys2Proof.Instr.encode]

theorem Sys2Proof.Laws.EncodingLength.sfLpc2 (wasted : Bool) :
    Sys2Proof.Laws.EncodingLength.Statement (.sfLpc2 wasted) := by
  intro _
  simp [Sys2Proof.Instr.encode]

theorem Sys2Proof.Laws.EncodingLength.sfLpc3 (wasted : Bool) :
    Sys2Proof.Laws.EncodingLength.Statement (.sfLpc3 wasted) := by
  intro _
  simp [Sys2Proof.Instr.encode]

theorem Sys2Proof.Laws.EncodingLength.sfLpc4 (wasted : Bool) :
    Sys2Proof.Laws.EncodingLength.Statement (.sfLpc4 wasted) := by
  intro _
  simp [Sys2Proof.Instr.encode]

theorem Sys2Proof.Laws.EncodingLength.sfLpc5 (wasted : Bool) :
    Sys2Proof.Laws.EncodingLength.Statement (.sfLpc5 wasted) := by
  intro _
  simp [Sys2Proof.Instr.encode]

theorem Sys2Proof.Laws.EncodingLength.sfLpc6 (wasted : Bool) :
    Sys2Proof.Laws.EncodingLength.Statement (.sfLpc6 wasted) := by
  intro _
  simp [Sys2Proof.Instr.encode]

theorem Sys2Proof.Laws.EncodingLength.sfLpc7 (wasted : Bool) :
    Sys2Proof.Laws.EncodingLength.Statement (.sfLpc7 wasted) := by
  intro _
  simp [Sys2Proof.Instr.encode]

theorem Sys2Proof.Laws.EncodingLength.sfLpc8 (wasted : Bool) :
    Sys2Proof.Laws.EncodingLength.Statement (.sfLpc8 wasted) := by
  intro _
  simp [Sys2Proof.Instr.encode]

theorem Sys2Proof.Laws.EncodingLength.sfLpc9 (wasted : Bool) :
    Sys2Proof.Laws.EncodingLength.Statement (.sfLpc9 wasted) := by
  intro _
  simp [Sys2Proof.Instr.encode]

theorem Sys2Proof.Laws.EncodingLength.sfLpc10 (wasted : Bool) :
    Sys2Proof.Laws.EncodingLength.Statement (.sfLpc10 wasted) := by
  intro _
  simp [Sys2Proof.Instr.encode]

theorem Sys2Proof.Laws.EncodingLength.sfLpc11 (wasted : Bool) :
    Sys2Proof.Laws.EncodingLength.Statement (.sfLpc11 wasted) := by
  intro _
  simp [Sys2Proof.Instr.encode]

theorem Sys2Proof.Laws.EncodingLength.sfLpc12 (wasted : Bool) :
    Sys2Proof.Laws.EncodingLength.Statement (.sfLpc12 wasted) := by
  intro _
  simp [Sys2Proof.Instr.encode]

theorem Sys2Proof.Laws.EncodingLength.sfLpc13 (wasted : Bool) :
    Sys2Proof.Laws.EncodingLength.Statement (.sfLpc13 wasted) := by
  intro _
  simp [Sys2Proof.Instr.encode]

theorem Sys2Proof.Laws.EncodingLength.sfLpc14 (wasted : Bool) :
    Sys2Proof.Laws.EncodingLength.Statement (.sfLpc14 wasted) := by
  intro _
  simp [Sys2Proof.Instr.encode]

theorem Sys2Proof.Laws.EncodingLength.sfLpc15 (wasted : Bool) :
    Sys2Proof.Laws.EncodingLength.Statement (.sfLpc15 wasted) := by
  intro _
  simp [Sys2Proof.Instr.encode]

theorem Sys2Proof.Laws.EncodingLength.sfLpc16 (wasted : Bool) :
    Sys2Proof.Laws.EncodingLength.Statement (.sfLpc16 wasted) := by
  intro _
  simp [Sys2Proof.Instr.encode]

theorem Sys2Proof.Laws.EncodingLength.sfLpc17 (wasted : Bool) :
    Sys2Proof.Laws.EncodingLength.Statement (.sfLpc17 wasted) := by
  intro _
  simp [Sys2Proof.Instr.encode]

theorem Sys2Proof.Laws.EncodingLength.sfLpc18 (wasted : Bool) :
    Sys2Proof.Laws.EncodingLength.Statement (.sfLpc18 wasted) := by
  intro _
  simp [Sys2Proof.Instr.encode]

theorem Sys2Proof.Laws.EncodingLength.sfLpc19 (wasted : Bool) :
    Sys2Proof.Laws.EncodingLength.Statement (.sfLpc19 wasted) := by
  intro _
  simp [Sys2Proof.Instr.encode]

theorem Sys2Proof.Laws.EncodingLength.sfLpc20 (wasted : Bool) :
    Sys2Proof.Laws.EncodingLength.Statement (.sfLpc20 wasted) := by
  intro _
  simp [Sys2Proof.Instr.encode]

theorem Sys2Proof.Laws.EncodingLength.sfLpc21 (wasted : Bool) :
    Sys2Proof.Laws.EncodingLength.Statement (.sfLpc21 wasted) := by
  intro _
  simp [Sys2Proof.Instr.encode]

theorem Sys2Proof.Laws.EncodingLength.sfLpc22 (wasted : Bool) :
    Sys2Proof.Laws.EncodingLength.Statement (.sfLpc22 wasted) := by
  intro _
  simp [Sys2Proof.Instr.encode]

theorem Sys2Proof.Laws.EncodingLength.sfLpc23 (wasted : Bool) :
    Sys2Proof.Laws.EncodingLength.Statement (.sfLpc23 wasted) := by
  intro _
  simp [Sys2Proof.Instr.encode]

theorem Sys2Proof.Laws.EncodingLength.sfLpc24 (wasted : Bool) :
    Sys2Proof.Laws.EncodingLength.Statement (.sfLpc24 wasted) := by
  intro _
  simp [Sys2Proof.Instr.encode]

theorem Sys2Proof.Laws.EncodingLength.sfLpc25 (wasted : Bool) :
    Sys2Proof.Laws.EncodingLength.Statement (.sfLpc25 wasted) := by
  intro _
  simp [Sys2Proof.Instr.encode]

theorem Sys2Proof.Laws.EncodingLength.sfLpc26 (wasted : Bool) :
    Sys2Proof.Laws.EncodingLength.Statement (.sfLpc26 wasted) := by
  intro _
  simp [Sys2Proof.Instr.encode]

theorem Sys2Proof.Laws.EncodingLength.sfLpc27 (wasted : Bool) :
    Sys2Proof.Laws.EncodingLength.Statement (.sfLpc27 wasted) := by
  intro _
  simp [Sys2Proof.Instr.encode]

theorem Sys2Proof.Laws.EncodingLength.sfLpc28 (wasted : Bool) :
    Sys2Proof.Laws.EncodingLength.Statement (.sfLpc28 wasted) := by
  intro _
  simp [Sys2Proof.Instr.encode]

theorem Sys2Proof.Laws.EncodingLength.sfLpc29 (wasted : Bool) :
    Sys2Proof.Laws.EncodingLength.Statement (.sfLpc29 wasted) := by
  intro _
  simp [Sys2Proof.Instr.encode]

theorem Sys2Proof.Laws.EncodingLength.sfLpc30 (wasted : Bool) :
    Sys2Proof.Laws.EncodingLength.Statement (.sfLpc30 wasted) := by
  intro _
  simp [Sys2Proof.Instr.encode]

theorem Sys2Proof.Laws.EncodingLength.sfLpc31 (wasted : Bool) :
    Sys2Proof.Laws.EncodingLength.Statement (.sfLpc31 wasted) := by
  intro _
  simp [Sys2Proof.Instr.encode]

theorem Sys2Proof.Laws.EncodingLength.sfLpc32 (wasted : Bool) :
    Sys2Proof.Laws.EncodingLength.Statement (.sfLpc32 wasted) := by
  intro _
  simp [Sys2Proof.Instr.encode]

theorem Sys2Proof.Laws.EncodingLength.resMethod0 (porder : BitVec 4) :
    Sys2Proof.Laws.EncodingLength.Statement (.resMethod0 porder) := by
  intro _
  simp [Sys2Proof.Instr.encode]

theorem Sys2Proof.Laws.EncodingLength.resMethod1 (porder : BitVec 4) :
    Sys2Proof.Laws.EncodingLength.Statement (.resMethod1 porder) := by
  intro _
  simp [Sys2Proof.Instr.encode]

theorem Sys2Proof.Laws.EncodingLength.resMethod2To3 (x : BitVec 1) :
    Sys2Proof.Laws.EncodingLength.Statement (.resMethod2To3 x) := by
  intro _
  simp [Sys2Proof.Instr.encode]

theorem Sys2Proof.Laws.EncodingLength.part4K (k : BitVec 4) :
    Sys2Proof.Laws.EncodingLength.Statement (.part4K k) := by
  intro _
  simp [Sys2Proof.Instr.encode]

theorem Sys2Proof.Laws.EncodingLength.part4Escape :
    Sys2Proof.Laws.EncodingLength.Statement .part4Escape := by
  intro _
  simp [Sys2Proof.Instr.encode]

theorem Sys2Proof.Laws.EncodingLength.part5K (k : BitVec 5) :
    Sys2Proof.Laws.EncodingLength.Statement (.part5K k) := by
  intro _
  simp [Sys2Proof.Instr.encode]

theorem Sys2Proof.Laws.EncodingLength.part5Escape :
    Sys2Proof.Laws.EncodingLength.Statement .part5Escape := by
  intro _
  simp [Sys2Proof.Instr.encode]

theorem Sys2Proof.Laws.EncodingLength.esc (width : BitVec 5) :
    Sys2Proof.Laws.EncodingLength.Statement (.esc width) := by
  intro _
  simp [Sys2Proof.Instr.encode]

theorem Sys2Proof.Laws.EncodingLength.pad (bits : Sys2Proof.Bits) :
    Sys2Proof.Laws.EncodingLength.Statement (.pad bits) := by
  intro h
  have h8 : bits.length < 8 := by simpa [Sys2Proof.Instr.wellFormed] using h
  exact ⟨by simp only [Sys2Proof.Instr.encode]; omega, .inl rfl⟩

theorem Sys2Proof.Laws.EncodingLength.crc16 (crc : BitVec 16) :
    Sys2Proof.Laws.EncodingLength.Statement (.crc16 crc) := by
  intro _
  simp [Sys2Proof.Instr.encode]
end

