-- ==== Sys2Proof/Tests/Slice0.lean ====
section
/-!
SUPPORT. Tests: terms the well-formedness check refuses, words written out from the encoding tables, the vectors of
spec/95_test_vectors.md (named there B, M, H, S, R, F, K), each one command or one operation, and for every statement with
hypotheses a state and operands that meet them.
-/

set_option Elab.async false

namespace Sys2Proof.Machine.Tests

/-! ### Helpers -/

/-- Bytes as the source's answers. -/
def answers (bytes : List Nat) : List SrcAnswer := bytes.map fun b => .byte (BitVec.ofNat 8 b)

/-- Bits cut into n bytes. -/
def byteList : Nat → Bits → List SrcAnswer
  | 0, _ => []
  | n + 1, bits => .byte (BitVec.ofNat 8 (bitsToNat 0 (bits.take 8))) :: byteList n (bits.drop 8)

/-- `s` with exactly these bits ahead of the cursor, its first ones in `BUF`. -/
def feed (bits : Bits) (s : State) : State :=
  let k := bits.length % 8
  { s with
    bitsLeft := k
    buf := BitVec.ofNat 8 (bitsToNat 0 (bits.take k))
    src := byteList (bits.length / 8) (bits.drop k) }

/-- The outcome is a next state with the property. -/
def gives (o : Host.Outcome State Fault Refusal) (p : State → Bool) : Bool :=
  match o with
  | .next t => p t
  | .fault _ => false
  | .refused _ => false

theorem next_of_gives {o : Host.Outcome State Fault Refusal} {p : State → Bool} (h : gives o p = true) :
    ∃ t, o = .next t ∧ p t = true := by
  cases o with
  | next t => exact ⟨t, rfl, h⟩
  | fault _ => simp [gives] at h
  | refused _ => simp [gives] at h

/-- `ERR` as the vectors write it. -/
def errorOf (t : State) : Nat × Nat × Nat × Nat :=
  (t.err.kind.toNat, t.err.sub.toNat, t.err.bytePos.toNat, t.err.bitsLeft.toNat)

/-- The body of StreamInfo SI1 of the vectors. -/
def si1Body : List Nat :=
  [0x00, 0x04, 0x00, 0x04, 0, 0, 0, 0, 0, 0, 0x0A, 0xC4, 0x40, 0xF0, 0, 0, 0, 0x04] ++ List.replicate 16 0

/-- The StreamInfo registers of SI1. -/
def si1 : StreamInfo :=
  { minBlock := 4, maxBlock := 4, minFrame := 0, maxFrame := 0, rate := 44100, channels := 1, bps := 16, total := 4, md5 := 0,
    valid := true }

/-- The marker "fLaC". -/
def marker : List Nat := [0x66, 0x4C, 0x61, 0x43]

/-- After OPEN of vector M1, a frame's bytes ahead. -/
def ready (frame : List Nat) : State :=
  { State.reset with state := .ready, bytePos := 42, si := si1, src := answers frame }

/-- Inside PULL at a position, one channel of 16 bits, block size 4. -/
def inFrame (pos : Position) : State :=
  { ready [] with
    fh := { State.reset.fh with blockSize := 4, channels := 1, bps := 16 }
    sf := { State.reset.sf with fullW := 16, w := 16 }
    seq := { pos := pos, numLeft := 0, numAcc := 0 } }

/-- PULL of a frame ends with this error and outputs nothing. -/
def pullFails (s : State) (e : Nat × Nat × Nat × Nat) : Bool :=
  gives (exec .cmdPull s) fun t =>
    t.lastResult == .error && errorOf t == e && t.state == .ready && t.frameOut == [] && t.out == s.out && t.framesOk == 0

/-- PULL of a frame commits these samples. -/
def pullGives (s : State) (samples : List (List Int)) : Bool :=
  gives (exec .cmdPull s) fun t =>
    t.lastResult == .frame && t.frameOut.map (·.samples) == [samples] && t.framesOk == 1 && t.bitsLeft == 0 && t.src == []

/-- OPEN ends with this error. -/
def openFails (bytes : List Nat) (e : Nat × Nat × Nat × Nat) : Bool :=
  gives (exec .cmdOpen { State.reset with src := answers bytes }) fun t =>
    t.lastResult == .error && errorOf t == e && t.state == .failed

/-! ### Well-formedness refuses -/

theorem test_illFormed_sync_code_as_bad_sync : (Instr.fhBadSync 0x3FFE).wellFormed = false := by decide

theorem test_illFormed_escape_as_parameter4 : (Instr.part4K 15).wellFormed = false := by decide

theorem test_illFormed_escape_as_parameter5 : (Instr.part5K 31).wellFormed = false := by decide

theorem test_illFormed_padding_of_a_byte : (Instr.pad (List.replicate 8 false)).wellFormed = false := by decide

theorem test_wellFormed_neighbours :
    (Instr.fhBadSync 0x3FFF).wellFormed = true ∧ (Instr.part4K 14).wellFormed = true ∧ (Instr.part5K 30).wellFormed = true ∧
    (Instr.pad (List.replicate 7 false)).wellFormed = true := by decide

/-! ### Decoding of words written out from the encoding tables -/

/-- The bits of a word written in binary. -/
def word (bits : List Nat) : Bits := bits.map (· == 1)

/-- R102. -/
theorem test_decode_commands :
    decode .host 0 (word [0, 0]) = .ok (.cmdReset, []) ∧ decode .host 0 (word [0, 1]) = .ok (.cmdOpen, []) ∧
    decode .host 0 (word [1, 0]) = .ok (.cmdPull, []) ∧ decode .host 0 (word [1, 1]) = .ok (.cmdReserved3, []) :=
  ⟨rfl, rfl, rfl, rfl⟩

/-- R80. -/
theorem test_decode_marker :
    decode .marker 0
      (word [0, 1, 1, 0, 0, 1, 1, 0, 0, 1, 0, 0, 1, 1, 0, 0, 0, 1, 1, 0, 0, 0, 0, 1, 0, 1, 0, 0, 0, 0, 1, 1]) =
      .ok (.marker 0x664C6143, []) := rfl

/-- R81, R82: the last flag, the type, the length. -/
theorem test_decode_metadata :
    decode .metadata 0 (word [1, 0, 0, 0, 0, 0, 0, 0, 0, 0, 0, 0, 0, 0, 0, 0, 0, 0, 0, 0, 0, 0, 0, 0, 0, 0, 1, 0, 0, 0, 1, 0]) =
      .ok (.mdStreaminfo true 34, []) ∧
    decode .metadata 0 (word [0, 0, 0, 0, 0, 1, 0, 0] ++ List.replicate 23 false ++ [true]) =
      .ok (.mdVorbisComment false 1, []) ∧
    decode .metadata 0 (word [1, 1, 1, 1, 1, 1, 1, 1] ++ List.replicate 24 true) =
      .ok (.mdUnknownTypes64To127 true 63 0xFFFFFF, []) ∧
    decode .metadata 0 (word [0, 0, 0, 0, 1, 0, 1, 0] ++ List.replicate 24 false) =
      .ok (.mdUnknownTypes8To15 false 2 0, []) :=
  ⟨rfl, rfl, rfl, rfl⟩

/-- R85: the sync code and the two bits after it; the bits after a refused field stay. -/
theorem test_decode_sync :
    decode .sync 0 (word [1, 1, 1, 1, 1, 1, 1, 1, 1, 1, 1, 1, 1, 0, 0, 0]) = .ok (.fhBlocking0, []) ∧
    decode .sync 0 (word [1, 1, 1, 1, 1, 1, 1, 1, 1, 1, 1, 1, 1, 0, 0, 1]) = .ok (.fhBlocking1, []) ∧
    decode .sync 0 (word [1, 1, 1, 1, 1, 1, 1, 1, 1, 1, 1, 1, 1, 0, 1, 0]) = .ok (.fhReservedA1, word [0]) ∧
    decode .sync 0 (word [1, 1, 1, 1, 1, 1, 1, 1, 1, 1, 1, 1, 0, 0, 1, 0]) = .ok (.fhBadSync 0x3FFC, word [1, 0]) :=
  ⟨rfl, rfl, rfl, rfl⟩

/-- R86, R87, R88, R89. -/
theorem test_decode_header_codes :
    decode .bsCode 0 (word [0, 1, 1, 0]) = .ok (.fhBs6, []) ∧ decode .srCode 0 (word [1, 0, 0, 1]) = .ok (.fhSr9, []) ∧
    decode .chCode 0 (word [1, 0, 1, 1]) = .ok (.fhCh11, []) ∧ decode .bpsCode 0 (word [1, 1, 0, 0]) = .ok (.fhBps6, []) ∧
    decode .bpsCode 0 (word [1, 0, 0, 1]) = .ok (.fhReservedB1 4, []) :=
  ⟨rfl, rfl, rfl, rfl, rfl⟩

/-- R90. -/
theorem test_decode_number :
    decode .number 0 (word [0, 1, 1, 1, 1, 1, 1, 1]) = .ok (.numLead00 127, []) ∧
    decode .number 0 (word [1, 0, 0, 0, 0, 0, 0, 0]) = .ok (.numLead80 0, []) ∧
    decode .number 0 (word [1, 1, 1, 1, 0, 1, 0, 1]) = .ok (.numLeadF0 5, []) ∧
    decode .number 0 (word [1, 1, 1, 1, 1, 1, 1, 0]) = .ok (.numLeadFE, []) ∧
    decode .numCont 0 (word [1, 0, 0, 0, 0, 0, 0, 1]) = .ok (.numContinuation 0x81, []) :=
  ⟨rfl, rfl, rfl, rfl, rfl⟩

/-- R86, R87, R85: the trailing fields and the header checksum. -/
theorem test_decode_trailing :
    decode .bs8 0 (word [0, 0, 0, 0, 0, 0, 1, 1]) = .ok (.bs8 3, []) ∧
    decode .bs16 0 (word [0, 0, 0, 1, 0, 0, 0, 0, 0, 0, 0, 0, 0, 0, 1, 0]) = .ok (.bs16 0x1002, []) ∧
    decode .sr8 0 (word [0, 0, 0, 0, 1, 0, 0, 0]) = .ok (.sr8 8, []) ∧
    decode .sr16 0 (word [1, 0, 0, 0, 0, 0, 0, 0, 0, 0, 0, 0, 0, 0, 0, 1]) = .ok (.sr16 0x8001, []) ∧
    decode .sr16x10 0 (word [0, 0, 0, 0, 0, 0, 0, 0, 0, 1, 0, 0, 0, 0, 0, 0]) = .ok (.sr16x10 0x40, []) ∧
    decode .crc8 0 (word [0, 0, 0, 1, 0, 1, 0, 0]) = .ok (.crc8 0x14, []) :=
  ⟨rfl, rfl, rfl, rfl, rfl, rfl⟩

/-- R91, R92; the last two leave the wasted-bits flag unread. -/
theorem test_decode_subframe :
    decode .subframe 0 (word [0, 0, 0, 0, 0, 0, 0, 0]) = .ok (.sfConstant false, []) ∧
    decode .subframe 0 (word [0, 0, 0, 0, 0, 0, 1, 1]) = .ok (.sfVerbatim true, []) ∧
    decode .subframe 0 (word [0, 0, 0, 1, 1, 0, 0, 0]) = .ok (.sfFixed4 false, []) ∧
    decode .subframe 0 (word [0, 1, 1, 1, 1, 1, 1, 1]) = .ok (.sfLpc32 true, []) ∧
    decode .subframe 0 (word [0, 0, 0, 1, 1, 0, 1, 0]) = .ok (.sfReservedType13, word [0]) ∧
    decode .subframe 0 (word [1, 0, 0, 0, 0, 0, 0, 0]) = .ok (.sfReserved1, word [0, 0, 0, 0, 0, 0, 0]) :=
  ⟨rfl, rfl, rfl, rfl, rfl, rfl⟩

/-- R97, R98, R99. -/
theorem test_decode_residual :
    decode .residual 0 (word [0, 0, 1, 1, 1, 1]) = .ok (.resMethod0 15, []) ∧
    decode .residual 0 (word [1, 0, 1]) = .ok (.resMethod2To3 0, word [1]) ∧
    decode .part4 0 (word [1, 1, 1, 0]) = .ok (.part4K 14, []) ∧
    decode .part4 0 (word [1, 1, 1, 1]) = .ok (.part4Escape, []) ∧
    decode .part5 0 (word [0, 1, 1, 1, 1]) = .ok (.part5K 15, []) ∧
    decode .part5 0 (word [1, 1, 1, 1, 1]) = .ok (.part5Escape, []) ∧
    decode .esc 0 (word [0, 0, 1, 0, 0]) = .ok (.esc 4, []) :=
  ⟨rfl, rfl, rfl, rfl, rfl, rfl, rfl⟩

/-- R84, R101. -/
theorem test_decode_footer :
    decode .pad 3 (word [1, 0, 0]) = .ok (.pad [true, false, false], []) ∧ decode .pad 0 [] = .ok (.pad [], []) ∧
    decode .footer 0 (word [0, 0, 0, 1, 0, 1, 0, 0, 1, 0, 1, 1, 1, 0, 0, 1]) = .ok (.crc16 0x14B9, []) :=
  ⟨rfl, rfl, rfl⟩

/-! ### Bit reader (L2.1) -/

/-- The value an operation answers, where it answers. -/
def value {α : Type} (r : EStateM.Result Stop State α) : Option α :=
  match r with
  | .ok v _ => some v
  | .error _ _ => none

/-- The state an operation leaves. -/
def left {α : Type} (r : EStateM.Result Stop State α) : State :=
  match r with
  | .ok _ t => t
  | .error _ t => t

/-- `BYTEPOS` 0, aligned, these bytes ahead. -/
def bytesAhead (bytes : List Nat) : State := { inFrame .sync with bytePos := 0, src := answers bytes }

theorem test_B1_B2_fields_across_bytes :
    value ((do let a ← readU 3; let b ← readU 9; let c ← readS 4; pure (a, b, c)) (bytesAhead [0xA5, 0x3C])) =
      some (5, 83, -4) := by decide +kernel

theorem test_B4_signed : value (readS 16 (bytesAhead [0xFF, 0xFB])) = some (-5) := by decide +kernel

theorem test_B5_unary :
    value (readUnary 10 .invalidPadding 9 (bytesAhead [0x10])) = some 3 ∧
    (left (readUnary 10 .invalidPadding 9 (bytesAhead [0x10]))).bitsLeft = 4 := by decide +kernel

theorem test_B6_unary_limit :
    errorOf (left (readUnary 2 .invalidPadding 9 (bytesAhead [0x10]))) = (20, 9, 1, 5) := by decide +kernel

theorem test_B7_unary_across_bytes :
    value (readUnary 16 .invalidPadding 9 (bytesAhead [0, 1])) = some 15 ∧
    (left (readUnary 16 .invalidPadding 9 (bytesAhead [0, 1]))).bytePos = 2 := by decide +kernel

theorem test_B9_padding_bits :
    decodeHere { inFrame .pad with buf := 0b10110100, bitsLeft := 3 } =
      .ok (.pad [true, false, false], List.replicate 29 false) := rfl

theorem test_B10_checksum_at_fetch :
    (left (fetch { bytesAhead [1] with crc8En := true })).crc8 = 7 := by decide +kernel

theorem test_B11_end_of_data : errorOf (left (readU 8 (bytesAhead []))) = (2, 0, 0, 0) := by decide +kernel

theorem test_B12_source_failure :
    (left (readU 8 { bytesAhead [] with src := [.ioErr 5] })).err =
      { kind := 1, sub := 0, bytePos := 0, bitsLeft := 0, ioCode := 5 } := by decide +kernel

theorem test_B14_width :
    value (checkWidth 33 7 State.reset) = some () ∧ errorOf (left (checkWidth 34 7 State.reset)) = (10, 7, 0, 0) := by
  decide +kernel

/-- R131, R132, L1.3: one-byte values. -/
theorem test_checksum_bytes : crc8Step 0 1 = 0x07 ∧ crc16Step 0 1 = 0x8005 ∧ crc16Step 0 0xFF = 0x0202 := by decide +kernel

/-! ### Metadata (L2.2) -/

theorem test_M1_open :
    gives (exec .cmdOpen { State.reset with src := answers (marker ++ [0x80, 0, 0, 0x22] ++ si1Body) }) (fun t =>
      t.state == .ready && t.lastResult == .opened && t.si == si1 && t.bytePos == 42 && t.metadataOut.length == 1) = true := by
  decide +kernel

theorem test_M2_bad_marker : openFails [0x66, 0x4C, 0x61, 0x44] (11, 2, 4, 0) = true := by decide +kernel

theorem test_M3_first_block : openFails (marker ++ [0x81, 0, 0, 0]) (11, 0, 8, 0) = true := by decide +kernel

theorem test_M4_length : openFails (marker ++ [0x80, 0, 0, 0x21, 0, 4]) (11, 1, 8, 0) = true := by decide +kernel

theorem test_M5_truncated : openFails (marker ++ [0x80, 0, 0, 0x22, 0, 4, 0, 4, 0]) (2, 0, 13, 0) = true := by decide +kernel

theorem test_M6_second_streaminfo :
    openFails (marker ++ [0, 0, 0, 0x22] ++ si1Body ++ [0, 0, 0, 0x22]) (11, 3, 46, 0) = true := by decide +kernel

theorem test_M7_unknown_block :
    gives (exec .cmdOpen
        { State.reset with
          src := answers (marker ++ [0, 0, 0, 0x22] ++ si1Body ++ [0xFF, 0, 0, 2, 0xAA, 0xBB]) }) (fun t =>
      t.state == .ready && t.bytePos == 48 &&
        t.metadataOut.drop 1 == [{ last := true, type := 127, length := 2, body := .raw [0xAA, 0xBB] }]) = true := by
  decide +kernel

theorem test_M8_no_block : openFails marker (2, 0, 4, 0) = true := by decide +kernel

/-! ### Frame header (L2.3) -/

/-- Vector H1: the frame of program P1. -/
def h1 : List Nat := [0xFF, 0xF8, 0x69, 0x08, 0x00, 0x03, 0x14, 0x00, 0xFF, 0xFB, 0x14, 0xB9]

theorem test_H1_commit :
    pullGives (ready h1) [[-5, -5, -5, -5]] = true ∧
    gives (exec .cmdPull (ready h1)) (fun t =>
      t.crc8 == 0x14 && t.crc16 == 0x14B9 && t.samplesOut == 4 && t.bytePos == 54 && t.state == .ready) = true := by
  decide +kernel

theorem test_H2_reserved_a : pullFails (ready [0xFF, 0xFA, 0x69, 0x08]) (4, 0, 44, 1) = true := by decide +kernel

theorem test_H3_reserved_b : pullFails (ready [0xFF, 0xF8, 0x69, 0x09, 0x00]) (4, 1, 46, 0) = true := by decide +kernel

theorem test_H4_block_size_code : pullFails (ready [0xFF, 0xF8, 0x09, 0x08]) (12, 0, 45, 4) = true := by decide +kernel

theorem test_H5_sample_rate_code : pullFails (ready [0xFF, 0xF8, 0x6F, 0x08]) (13, 0, 45, 0) = true := by decide +kernel

theorem test_H6_channel_code : pullFails (ready [0xFF, 0xF8, 0x69, 0xB8]) (5, 0, 46, 4) = true := by decide +kernel

theorem test_H7_depth_code : pullFails (ready [0xFF, 0xF8, 0x69, 0x06]) (14, 0, 46, 1) = true := by decide +kernel

theorem test_H8_number_80 : pullFails (ready [0xFF, 0xF8, 0x69, 0x08, 0x80, 3]) (15, 0, 47, 0) = true := by decide +kernel

theorem test_H9_number_FF : pullFails (ready [0xFF, 0xF8, 0x69, 0x08, 0xFF, 3]) (15, 0, 47, 0) = true := by decide +kernel

theorem test_H10_number_FE : pullFails (ready [0xFF, 0xF8, 0x69, 0x08, 0xFE, 0x80]) (15, 0, 47, 0) = true := by decide +kernel

theorem test_H11_continuation :
    pullFails (ready [0xFF, 0xF8, 0x69, 0x08, 0xC2, 0x41, 3]) (15, 0, 48, 0) = true := by decide +kernel

theorem test_H12_header_checksum :
    pullFails (ready [0xFF, 0xF8, 0x69, 0x08, 0x00, 0x03, 0x15, 0x00]) (6, 0, 49, 0) = true := by decide +kernel

theorem test_H13_block_size_limit :
    pullFails (ready [0xFF, 0xF8, 0x69, 0x08, 0x00, 0x04, 0x01, 0x00]) (19, 0, 49, 0) = true := by decide +kernel

theorem test_H14_block_size_minimum :
    pullFails
      { ready [0xFF, 0xF8, 0x69, 0x08, 0x00, 0x02, 0x13, 0xFF] with
        cfg := { Config.default with blockSizeCheck := .minMax } }
      (19, 1, 49, 0) = true := by decide +kernel

theorem test_H15_bs16_sr8 :
    gives (exec .cmdPull
        (ready [0xFF, 0xF8, 0x7C, 0x08, 0x00, 0x00, 0x03, 0x08, 0xAA, 0x00, 0x00, 0x01, 0xFA, 0x25])) (fun t =>
      t.lastResult == .frame && t.fh.rate == 8000 && t.frameOut.map (·.samples) == [[[1, 1, 1, 1]]]) = true := by
  decide +kernel

theorem test_H16_streaminfo_values :
    gives (exec .cmdPull (ready [0xFF, 0xF8, 0x60, 0x00, 0x00, 0x03, 0xE3, 0x00, 0x00, 0x02, 0xA0, 0x3E])) (fun t =>
      t.lastResult == .frame && t.fh.rate == 44100 && t.fh.bps == 16 &&
        t.frameOut.map (·.samples) == [[[2, 2, 2, 2]]]) = true := by
  decide +kernel

theorem test_H17_truncated_header : pullFails (ready [0xFF, 0xF8, 0x69, 0x08, 0x00]) (2, 0, 47, 0) = true := by decide +kernel

theorem test_H18_no_frame :
    gives (exec .cmdPull (ready [])) (fun t => t.lastResult == .ended && t.state == .ended) = true := by decide +kernel

theorem test_H19_sync : pullFails (ready [0xFF, 0xF0, 0x69, 0x08]) (3, 0, 44, 2) = true := by decide +kernel

/-! ### Subframes (L2.4) -/

/-- The frame header of the vectors of L2.4. -/
def header : List Nat := [0xFF, 0xF8, 0x69, 0x08, 0x00, 0x03, 0x14]

theorem test_S2_verbatim :
    pullGives (ready (header ++ [0x02, 0x00, 0x00, 0xFF, 0xFF, 0x7F, 0xFF, 0x80, 0x00, 0xDD, 0xB5])) [[0, -1, 32767, -32768]] =
      true := by decide +kernel

theorem test_S3_wasted :
    pullGives (ready (header ++ [0x01, 0x00, 0x03, 0x94, 0xB2])) [[-32768, -32768, -32768, -32768]] = true := by decide +kernel

theorem test_S4_wasted_verbatim :
    pullGives
      (ready (header ++ [0x03, 0x80, 0x01, 0x00, 0x04, 0x00, 0x0C, 0x00, 0x20, 0x58, 0xEC])) [[2, 4, 6, 8]] = true := by
  decide +kernel

theorem test_S5_fixed2 :
    pullGives (ready (header ++ [0x14, 0x00, 0x01, 0x00, 0x02, 0x04, 0x03, 0x15, 0x50])) [[1, 2, 3, 4]] = true := by
  decide +kernel

theorem test_S6_fixed3 :
    pullGives (ready (header ++ [0x16, 0x00, 0x01, 0x00, 0x04, 0x00, 0x09, 0x00, 0xA0, 0xA1, 0x7B])) [[1, 4, 9, 16]] = true := by
  decide +kernel

theorem test_S7_fixed4 :
    pullGives
      (ready (header ++ [0x18, 0x00, 0x01, 0x00, 0x04, 0x00, 0x09, 0x00, 0x10, 0x00, 0x00, 0x9B, 0x53])) [[1, 4, 9, 16]] =
      true := by decide +kernel

theorem test_S8_lpc1 :
    pullGives (ready (header ++ [0x40, 0xFF, 0xFD, 0x10, 0xA0, 0x78, 0x00, 0x04, 0xE2])) [[-3, -2, -1, -1]] = true := by
  decide +kernel

theorem test_S9_reserved_bit : pullFails (ready (header ++ [0x80, 0xFF])) (4, 2, 50, 7) = true := by decide +kernel

theorem test_S10_type2 : pullFails (ready (header ++ [0x04, 0xFF])) (7, 0, 50, 1) = true := by decide +kernel

theorem test_S11_type13 : pullFails (ready (header ++ [0x1A, 0x46])) (7, 0, 50, 1) = true := by decide +kernel

theorem test_S12_type16 : pullFails (ready (header ++ [0x20, 0x46])) (7, 0, 50, 1) = true := by decide +kernel

theorem test_S13_wasted_limit : pullFails (ready (header ++ [0x01, 0x00, 0x01, 0x14])) (10, 0, 52, 1) = true := by decide +kernel

theorem test_S14_precision : pullFails (ready (header ++ [0x40, 0x00, 0x01, 0xF0])) (9, 0, 53, 4) = true := by decide +kernel

theorem test_S15_shift : pullFails (ready (header ++ [0x40, 0x00, 0x01, 0x3F, 0x80])) (16, 0, 54, 7) = true := by
  decide +kernel

/-- Vector S16's frame. -/
def s16 : List Nat := header ++ [0x12, 0x7F, 0xFF, 0x03, 0xC4, 0x80, 0x90, 0x3B]

/-- R7, R202: an order past the configured maximum is refused as soon as the type is read, one at it is not. -/
theorem test_maximum_orders :
    pullFails { ready (header ++ [0x12, 0x00]) with cfg := { Config.default with maxFixedOrder := 0 } } (7, 0, 50, 1) = true ∧
    pullFails { ready (header ++ [0x42, 0x00]) with cfg := { Config.default with maxLpcOrder := 1 } } (7, 0, 50, 1) = true ∧
    pullFails { ready (header ++ [0x40, 0x00]) with cfg := { Config.default with maxLpcOrder := 1 } } (2, 0, 51, 0) = true := by
  decide +kernel

theorem test_S16_range : pullFails (ready s16) (18, 0, 55, 3) = true := by decide +kernel

theorem test_S17_range_check_off :
    pullGives { ready s16 with cfg := { Config.default with rangeCheck := false } } [[32767, 32768, 32768, 32768]] = true := by
  decide +kernel

theorem test_S18_order_above_block :
    pullFails (ready (header ++ [0x48] ++ List.replicate 10 0 ++ [0x30, 0, 0, 0, 0])) (17, 1, 65, 5) = true := by decide +kernel

theorem test_S19_width :
    pullFails { ready h1 with cfg := { Config.default with maxReadWidth := 3 } } (10, 0, 50, 0) = true := by decide +kernel

/-! ### Residuals (L2.5) -/

theorem test_R1_escape5 :
    pullGives (ready (header ++ [0x12, 0xFF, 0xF9, 0x43, 0xE4, 0x87, 0x00, 0x29, 0x66])) [[-7, -15, -8, -8]] = true := by
  decide +kernel

theorem test_R2_escape4_width_0 :
    pullGives (ready (header ++ [0x12, 0xFF, 0xF9, 0x03, 0xC0, 0x74, 0x4E])) [[-7, -7, -7, -7]] = true := by decide +kernel

theorem test_R3_method :
    pullFails (ready (header ++ [0x14, 0x00, 0x01, 0x00, 0x02, 0x80, 0x18, 0x0D])) (8, 0, 55, 6) = true := by decide +kernel

theorem test_R4_short_partition :
    pullFails (ready (header ++ [0x14, 0x00, 0x01, 0x00, 0x02, 0x08, 0x1B, 0x3D])) (17, 1, 55, 2) = true := by decide +kernel

theorem test_R5_partition_order :
    pullFails (ready (header ++ [0x12, 0x00, 0x01, 0x0C, 0xC1, 0x56])) (17, 0, 53, 2) = true := by decide +kernel

/-- L1.2: the codewords of parameter 2 for 1, -4 and -6, and of parameter 30 for the least value. -/
theorem test_rice_codewords :
    value (readRice 2 (feed (word [1, 1, 0]) (inFrame .part4))) = some 1 ∧
    value (readRice 2 (feed (word [0, 1, 1, 1]) (inFrame .part4))) = some (-4) ∧
    value (readRice 2 (feed (word [0, 0, 1, 1, 1]) (inFrame .part4))) = some (-6) ∧
    value (readRice 30 (feed (word [0, 0, 0, 1] ++ List.replicate 30 true) (inFrame .part5))) = some (-(2 ^ 31)) := by
  decide +kernel

/-- R237. -/
theorem test_fold :
    (List.range 6).map fold = [0, -1, 1, -2, 2, -3] ∧ fold (2 ^ 32 - 2) = 2 ^ 31 - 1 ∧ fold (2 ^ 32 - 1) = -(2 ^ 31) := by
  decide +kernel

/-- R233. -/
theorem test_partition_sizes :
    (List.range 2).map (partSize 16 2 1) = [6, 8] ∧ partSize 4 4 0 0 = 0 ∧ (List.range 2).map (partSize 4 2 1) = [0, 2] := by
  decide +kernel

/-- L1.8: the LPC example of R215. -/
theorem test_lpc_example :
    value (historySum 0 [3, -1] 2
      { inFrame .residual with sub := SampleRam.write 0 100 (SampleRam.write 1 (-200) []) }) = some (-700) ∧
    asr (-700) 1 + 5 = -345 ∧ asr (-3) 1 = -2 := by decide +kernel

/-! ### Channels, padding, footer (L2.6) -/

theorem test_F1_independent :
    pullGives (ready [0xFF, 0xF8, 0x69, 0x18, 0x00, 0x03, 0xB6, 0x00, 0x00, 0x01, 0x00, 0x00, 0x02, 0x5E, 0x62])
      [[1, 1, 1, 1], [2, 2, 2, 2]] = true := by decide +kernel

/-- Vector F2's frame. -/
def f2 : List Nat := [0xFF, 0xF8, 0x69, 0x88, 0x00, 0x03, 0x1F, 0x00, 0x7F, 0xFF, 0x00, 0xFF, 0xFF, 0x80, 0x85, 0x1F]

theorem test_F2_output_range : pullFails (ready f2) (18, 2, 56, 7) = true := by decide +kernel

theorem test_F3_left_side :
    pullGives { ready f2 with cfg := { Config.default with rangeCheck := false } }
      [[32767, 32767, 32767, 32767], [32768, 32768, 32768, 32768]] = true := by decide +kernel

theorem test_F4_right_side :
    pullGives (ready [0xFF, 0xF8, 0x69, 0x98, 0x00, 0x03, 0xBD, 0x00, 0xFF, 0xFF, 0x00, 0x00, 0x32, 0x00, 0x53, 0x61])
      [[98, 98, 98, 98], [100, 100, 100, 100]] = true := by decide +kernel

theorem test_F5_middle_side :
    pullGives (ready [0xFF, 0xF8, 0x69, 0xA8, 0x00, 0x03, 0x5C, 0x00, 0xFF, 0xFD, 0x00, 0x00, 0x02, 0x80, 0x9E, 0xFA])
      [[0, 0, 0, 0], [-5, -5, -5, -5]] = true := by decide +kernel

/-- Vector F6's frame. -/
def f6 : List Nat := header ++ [0x03, 0x80, 0x01, 0x00, 0x04, 0x00, 0x0C, 0x00, 0x24, 0xD8, 0xF7]

theorem test_F6_padding : pullFails (ready f6) (20, 0, 58, 0) = true := by decide +kernel

theorem test_F7_padding_check_off :
    pullGives { ready f6 with cfg := { Config.default with paddingCheck := false } } [[2, 4, 6, 8]] = true := by decide +kernel

theorem test_F8_footer :
    pullFails (ready [0xFF, 0xF8, 0x69, 0x08, 0x00, 0x03, 0x14, 0x00, 0xFF, 0xFB, 0x14, 0xB8]) (6, 1, 54, 0) = true := by
  decide +kernel

/-- Program P2's frame: MiddleSide, FIXED2 with wasted bits and Rice partitions, FIXED1 escaped. -/
theorem test_P2_frame :
    pullGives
      { ready [0xFF, 0xF8, 0x6A, 0xA2, 0x00, 0x07, 0xFD, 0x15, 0x84, 0x0C, 0x08, 0xC8, 0x19, 0x44, 0x80, 0xC8, 0x7C, 0xB5, 0x4E,
          0x4B, 0xD0, 0x84, 0x54, 0x56] with
        si := { si1 with minBlock := 8, maxBlock := 8, rate := 48000, channels := 2, bps := 8, total := 8 } }
      [[11, 10, 18, 21, 27, 30, 36, 41], [5, 15, 14, 24, 25, 31, 36, 40]] = true := by decide +kernel

/-- Program P3's first frame: a three-byte sample number, LeftSide, LPC2 with an escaped and a Rice partition. -/
theorem test_P3_frame :
    pullGives
      { ready [0xFF, 0xF9, 0x60, 0x88, 0xE1, 0x80, 0x80, 0x0F, 0x72, 0x42, 0x00, 0x64, 0xFF, 0x38, 0x30, 0x9F, 0x83, 0xE5, 0x2F, 0x40,
          0x7C, 0x08, 0xB4, 0xAC, 0x47, 0x10, 0xE0, 0x00, 0x00, 0x30, 0x90, 0x5A] with
        si := { si1 with minBlock := 16, maxBlock := 16, channels := 2, total := 0 } }
      [[100, -200, -345, -421, -459, -471, -485, -490, -492, -493, -495, -493, -488, -490, -485, -489],
        [97, -203, -348, -424, -462, -474, -488, -493, -495, -496, -498, -496, -491, -493, -488, -492]] = true := by
  decide +kernel

/-! ### Host commands (L2.7) -/

/-- Between commands in a state, nothing ahead. -/
def idleIn (c : CoreState) : State := { ready [] with state := c }

/-- The command only writes LAST_RESULT. -/
def onlyResult (i : Instr) (r : LastResult) (s : State) : Bool := gives (exec i s) fun t => t == { s with lastResult := r }

theorem test_K1_to_K6_rejected :
    onlyResult .cmdPull .rejected (idleIn .idle) = true ∧ onlyResult .cmdReserved3 .rejected (idleIn .idle) = true ∧
    onlyResult .cmdOpen .rejected (idleIn .ready) = true ∧ onlyResult .cmdReserved3 .rejected (idleIn .ready) = true ∧
    onlyResult .cmdPull .rejected (idleIn .failed) = true ∧ onlyResult .cmdOpen .rejected (idleIn .failed) = true := by
  decide +kernel

theorem test_K7_K12_reset :
    gives (exec .cmdReset { idleIn .failed with lastResult := .error, metadataOut := [⟨true, 1, 0, .raw []⟩] }) (fun t =>
      t == { State.reset with metadataOut := [⟨true, 1, 0, .raw []⟩] }) = true := by
  decide +kernel

theorem test_K8_K9_ended :
    onlyResult .cmdPull .ended (idleIn .ended) = true ∧ onlyResult .cmdOpen .rejected (idleIn .ended) = true := by
  decide +kernel

theorem test_K10_total_reached :
    gives (exec .cmdPull { ready h1 with samplesOut := 4, crc8 := 0x14, crc16 := 0x14B9 }) (fun t =>
      t == { ready h1 with samplesOut := 4, crc8 := 0x14, crc16 := 0x14B9, state := .ended, lastResult := .ended }) = true := by
  decide +kernel

theorem test_K11_end_of_source :
    gives (exec .cmdPull { ready [] with crc8 := 0x14, crc16 := 0x14B9, si := { si1 with total := 0 } }) (fun t =>
      t.state == .ended && t.lastResult == .ended && t.crc8 == 0 && t.crc16 == 0) = true := by decide +kernel

/-! ### Witnesses: for each statement with hypotheses, a state and operands that meet them -/

theorem ready_inv (frame : List Nat) : (ready frame).Inv where
  memory := rfl
  bitsLeft := by simp [ready, State.reset]
  channels := by simp [ready, State.reset, topChannels]
  blockSize := by simp [ready, State.reset, topBlock]
  order := by simp [ready, State.reset]
  assignment := by simp [ready, State.reset]
  opening := by simp [ready, State.reset, inOpen]
  pulling := by simp [ready, State.reset, inPull]
  quiet := by simp [ready, State.reset]
  counted := by simp [ready, State.reset]
  valid := by simp [ready, si1]
  unopened := by simp [ready]
  frame := by simp [State.frameInv, ready, State.reset]

theorem reset_inv : State.reset.Inv where
  memory := by decide
  bitsLeft := by decide
  channels := by decide
  blockSize := by decide
  order := by decide
  assignment := by decide
  opening := by decide
  pulling := by decide
  quiet := by decide
  counted := by decide
  valid := by decide
  unopened := by decide
  frame := trivial

/-- The host's PULL is the next input, the frame of H1 ahead. -/
def pulling : State := { ready h1 with host := [.command 2] }

theorem pulling_inv : pulling.Inv := { ready_inv h1 with frame := trivial }

theorem witness_ResetCommand : (ready h1).seq.pos = .host := rfl

theorem witness_StepKeepsMemoryCanonical :
    Memory.wf pulling = true ∧ ∃ t, step pulling = .next t ∧ (t.lastResult == .frame) = true :=
  ⟨by decide, next_of_gives (by decide +kernel)⟩

theorem witness_StepAnswersAndKeepsInvariant : pulling.Inv ∧ pulling.holdsEveryFrame ∧ pulling.hostInContract :=
  ⟨pulling_inv, ⟨rfl, rfl⟩, fun _ _ _ _ => .inr rfl⟩

theorem witness_ConfigurationIsFixed : ∃ t, step pulling = .next t ∧ (t.lastResult == .frame) = true :=
  next_of_gives (by decide +kernel)

/-- Inside OPEN after the StreamInfo block, with every count taken, a second StreamInfo block ahead. -/
def secondBlock : State :=
  { State.reset with
    si := si1, md := { count := 2 ^ 32 - 1, last := false, type := 0, len := 34 }
    seq := { pos := .metadata, numLeft := 0, numAcc := 0 }
    src := answers [0x80, 0x00, 0x00, 0x22] }

theorem secondBlock_inv : secondBlock.Inv := { reset_inv with
  opening := by decide
  pulling := by decide
  quiet := by decide
  counted := by decide
  valid := by decide
  unopened := by decide
  frame := trivial }

theorem witness_StreamInfoIsImmutable :
    (pulling.Inv ∧ pulling.state ≠ .idle ∧ ∃ t, step pulling = .next t ∧ (t.lastResult == .frame) = true) ∧
    (secondBlock.Inv ∧ secondBlock.si.valid = true ∧
      ∃ t, step secondBlock = .next t ∧ (errorOf t == (11, 3, 4, 0)) = true) :=
  ⟨⟨pulling_inv, by decide, next_of_gives (by decide +kernel)⟩,
    secondBlock_inv, by decide, next_of_gives (by decide +kernel)⟩

theorem witness_OutputOnlyOnCommit :
    Instr.cmdPull ≠ .cmdReset ∧ ∃ t, exec .cmdPull (ready [0xFF, 0xF0]) = .next t ∧ (t.lastResult != .frame) = true :=
  ⟨by decide, next_of_gives (by decide +kernel)⟩

theorem witness_DecodeOfEncode :
    (Instr.pad (List.replicate 7 true)).wellFormed = true ∧ (Instr.part5K 30).wellFormed = true ∧
    (Instr.fhBadSync 0x3FFF).wellFormed = true := by decide

theorem witness_DecodeIsExact :
    (7 < 8 ∧ decode .pad 7 (List.replicate 9 true) = .ok (.pad (List.replicate 7 true), [true, true])) ∧
    32 ≤ (List.replicate 32 true).length := ⟨⟨by decide, rfl⟩, by decide⟩

theorem witness_StepRunsTheInstruction :
    ((inFrame .bsCode).seq.pos ≠ .host ∧ decodeHere (inFrame .bsCode) = .ok (.fhBs0, List.replicate 28 false)) ∧
    ((ready []).seq.pos = .host ∧ (ready []).host = []) ∧
    (pulling.seq.pos = .host ∧ pulling.host = .command 2 :: []) ∧
    (let s := { State.reset with host := [.source (answers marker)] }
     s.seq.pos = .host ∧ (s.state = .idle ∨ s.state = .ready) ∧ s.host = .source (answers marker) :: []) :=
  ⟨⟨by decide, rfl⟩, ⟨rfl, rfl⟩, ⟨rfl, rfl⟩, rfl, .inl rfl, rfl⟩

theorem witness_CommandRunsItsElements :
    (Instr.marker 0).position ≠ .host ∧ (inFrame .marker).seq.pos ≠ .host ∧ (ready []).seq.pos = .host ∧
    (State.reset.seq.pos = .host ∧ State.reset.state = .idle) ∧
    (let s := { ready h1 with samplesOut := 3 }
     s.seq.pos = .host ∧ s.state = .ready ∧ ¬(s.si.total ≠ 0 ∧ s.si.total.toNat ≤ s.samplesOut.toNat)) := by decide

theorem witness_FetchAnswers :
    (bytesAhead [0xFF]).src = .byte 0xFF :: [] ∧
    (let s := { bytesAhead [] with atPullStart := true }
     s.src = [] ∧ s.atPullStart = true) ∧
    ((bytesAhead []).src = [] ∧ (bytesAhead []).atPullStart = false) ∧
    ({ bytesAhead [] with src := [.ioErr 5] } : State).src = .ioErr 5 :: [] := by decide

theorem witness_ReadUnsignedField :
    (2 ^ 9 - 1 < 2 ^ 9 ∧
      (feed (natToBits 9 (2 ^ 9 - 1) ++ [false]) (inFrame .sync)).stream = natToBits 9 (2 ^ 9 - 1) ++ [false]) ∧
    ((bytesAhead [0xFF, 1]).bitsLeft = 0 ∧ (bytesAhead [0xFF, 1]).src = ([0xFF, 1] : List Byte).map .byte ++ []) ∧
    (bytesAhead [0xFF]).stream.length < 9 := by decide

theorem witness_ReadSignedField :
    (fits 5 (-16) = true ∧ (feed (signedBits 5 (-16) ++ [true]) (inFrame .sync)).stream = signedBits 5 (-16) ++ [true]) ∧
    (fits 0 0 = true ∧ (feed (signedBits 0 0 ++ [true]) (inFrame .sync)).stream = signedBits 0 0 ++ [true]) := by decide

theorem witness_ReadUnaryCounts :
    (((3 : Nat) : Int) ≤ 3 ∧ (feed (unaryBits 3 ++ [true]) (inFrame .sync)).stream = unaryBits 3 ++ [true]) ∧
    ((0 : Nat) = 0 ∧ (feed (unaryBits 0 ++ []) (inFrame .sync)).stream = unaryBits 0 ++ []) ∧
    (feed (List.replicate ((3 : Int).toNat + 1) false ++ []) (inFrame .sync)).stream =
      List.replicate ((3 : Int).toNat + 1) false ++ [] ∧
    (feed (List.replicate ((-1 : Int).toNat + 1) false ++ []) (inFrame .sync)).stream =
      List.replicate ((-1 : Int).toNat + 1) false ++ [] ∧
    (3 ≤ (3 : Int).toNat ∧ (feed (List.replicate 3 false) (inFrame .sync)).stream = List.replicate 3 false) := by decide

theorem witness_CursorFrame :
    (inFrame .sync).crc8En = false ∧ (inFrame .sync).crc16En = false ∧
    ({ inFrame .sync with crc8En := true, crc16En := true } : State).crc8En = true ∧
    ({ inFrame .sync with crc8En := true, crc16En := true } : State).crc16En = true := by decide

theorem witness_SampleMemory :
    let cfg := State.reset.cfg
    (7 < cfg.maxChannels.val ∧ 65535 < cfg.maxBlock.val) ∧
    (7 < cfg.maxChannels.val ∧ 65534 < cfg.maxBlock.val ∧ (7, 65534) ≠ (7, 65535)) ∧
    ¬(7 < cfg.maxChannels.val ∧ 65536 < cfg.maxBlock.val) ∧ ¬(8 < cfg.maxChannels.val ∧ 0 < cfg.maxBlock.val) := by decide

/-- R7: the sizes are the configuration's, which a model may override. -/
theorem test_sample_ram_of_an_overridden_size :
    let s := { State.reset with cfg := { Config.default with maxChannels := 2, maxBlock := 16 } }
    value (writeSample 1 15 9 s) = some () ∧ value (writeSample 1 16 9 s) = none ∧ value (writeSample 2 0 9 s) = none := by decide

/-- The rows of an earlier frame hold values, and so do older ones. -/
def laterFrame : State := { ready h1 with sub := [(0, 1), (65536, 2)], subEarlier := [(0, 3), (1, 4)] }

theorem witness_FrameBeginsUnwritten :
    Memory.wf laterFrame = true ∧ (7 < laterFrame.cfg.maxChannels.val ∧ 65535 < laterFrame.cfg.maxBlock.val) ∧
    value (writeSample 0 1 9 laterFrame) = some () := by decide

/-- R32, R306: an entry of an earlier frame holds no value for the frame that begins, and is kept. -/
theorem test_entries_of_an_earlier_frame :
    (match readSample 0 0 (beginPull laterFrame) with
      | .error e _ => some e
      | .ok _ _ => none) = some (.fault .unwrittenSample) ∧
    [0, 1, 65536].map (beginPull laterFrame).subEntry = [some 1, some 4, some 2] := by decide

theorem witness_TruncatedElement :
    (Instr.marker 0).position ∈
      [Position.marker, .bsCode, .srCode, .chCode, .number, .numCont, .bs8, .bs16, .sr8, .sr16, .sr16x10, .part4, .part5,
        .esc] ∧
    (feed (List.replicate 31 false) (inFrame .marker)).stream.length < (Instr.marker 0).encode.length := by decide

theorem witness_RejectedCommands :
    (ready []).seq.pos = .host ∧ (ready []).state ≠ .idle ∧ (idleIn .failed).seq.pos = .host ∧
    (State.reset.state = .idle ∨ State.reset.state = .failed) ∧
    ((idleIn .failed).state = .idle ∨ (idleIn .failed).state = .failed) := by decide

theorem witness_PullEndsTheSequence :
    ((idleIn .ended).seq.pos = .host ∧ (idleIn .ended).state = .ended) ∧
    (let s := { ready h1 with samplesOut := 4 }
     s.seq.pos = .host ∧ s.state = .ready ∧ s.si.total ≠ 0 ∧ s.si.total.toNat ≤ s.samplesOut.toNat) ∧
    (let s := { ready [] with samplesOut := 3 }
     s.seq.pos = .host ∧ s.state = .ready ∧ ¬(s.si.total ≠ 0 ∧ s.si.total.toNat ≤ s.samplesOut.toNat) ∧ s.src = []) ∧
    (ready []).Inv ∧ ∃ t, exec .cmdPull (ready []) = .next t ∧ (t.lastResult == .ended) = true :=
  ⟨by decide, by decide, by decide, ready_inv [], next_of_gives (by decide +kernel)⟩

theorem witness_OpenAlwaysEnds :
    State.reset.Inv ∧ State.reset.seq.pos = .host ∧ State.reset.state = .idle := ⟨reset_inv, rfl, rfl⟩

/-- A StreamInfo set at the top of its ranges. -/
def siTop : StreamInfo :=
  { minBlock := 0xFFFF, maxBlock := 0xFFFF, minFrame := 0, maxFrame := 0xFFFFFF, rate := 0xFFFFF, channels := 8, bps := 32,
    total := 2 ^ 36 - 1, md5 := 2 ^ 128 - 1, valid := true }

/-- The bits of that StreamInfo block, not the last, and of a last block of type 127 with one byte. -/
def twoBlocks : Bits :=
  natToBits 32 0x664C6143 ++ (false :: natToBits 7 0 ++ natToBits 24 34 ++ streamInfoBits siTop) ++
    (true :: natToBits 7 127 ++ natToBits 24 1 ++ byteToBits 0xAB)

theorem witness_OpenDecodesEncodedMetadata :
    let s := feed (twoBlocks ++ [true]) State.reset
    s.seq.pos = .host ∧ s.state = .idle ∧ s.cfg.expectMarker = true ∧ siTop.encodable = true ∧
    ((127 : BitVec 7) ≠ 0 ∧ ([0xAB] : List Byte).length < 2 ^ 24) ∧ 1 < 2 ^ 32 - 1 ∧ s.stream = twoBlocks ++ [true] := by
  decide +kernel

theorem witness_PullAlwaysEnds :
    (ready h1).Inv ∧ (ready h1).holdsEveryFrame ∧ (ready h1).seq.pos = .host ∧ (ready h1).state = .ready :=
  ⟨ready_inv h1, ⟨rfl, rfl⟩, rfl, rfl⟩

theorem witness_MarkerCheck :
    32 ≤ (feed (natToBits 32 0x664C6143) (inFrame .marker)).stream.length ∧
    (feed (List.replicate 31 true) (inFrame .marker)).stream.length < 32 ∧
    (State.reset.seq.pos = .host ∧ State.reset.state = .idle) := by decide

theorem witness_RawBlockPassesThrough :
    let i := Instr.mdUnknownTypes64To127 true 63 1
    let s := { feed (i.encode ++ ([0xAB] : List Byte).flatMap byteToBits ++ [true]) (inFrame .metadata) with md.count := 1 }
    i.rawBlock? = some (true, 127, 1) ∧ s.md.count ≠ 0 ∧ ([0xAB] : List Byte).length = (1 : BitVec 24).toNat ∧
    s.stream = i.encode ++ ([0xAB] : List Byte).flatMap byteToBits ++ [true] := by decide +kernel

theorem witness_StreamInfoBlockDecodes :
    let bits := (Instr.mdStreaminfo true 34).encode ++ streamInfoBits siTop ++ [true]
    let s := feed bits (inFrame .metadata)
    siTop.encodable = true ∧ s.md.count = 0 ∧ s.stream = bits := by decide +kernel

theorem witness_MetadataFormatErrors :
    let s := feed (List.replicate 32 true) (inFrame .metadata)
    let t := { s with md.count := 1 }
    32 ≤ s.stream.length ∧ 32 ≤ t.stream.length ∧
    ((Instr.mdPadding false 0).rawBlock? = some (false, 1, 0) ∧ s.md.count = 0) ∧ t.md.count ≠ 0 ∧
    (s.md.count = 0 ∧ (33 : BitVec 24) ≠ 34) := by decide +kernel

theorem witness_SyncAndBlocking :
    16 ≤ (feed (List.replicate 16 true) (inFrame .sync)).stream.length ∧
    15 ≤ (feed (List.replicate 15 true) (inFrame .sync)).stream.length ∧
    14 ≤ (feed (List.replicate 14 true) (inFrame .sync)).stream.length ∧
    (feed (List.replicate 13 true) (inFrame .sync)).stream.length < 14 ∧
    (feed (List.replicate 14 true) (inFrame .sync)).stream.length < 15 ∧
    (feed (List.replicate 15 true) (inFrame .sync)).stream.length < 16 := by decide

theorem witness_BlockSizeAndRateCodes :
    4 ≤ (feed (List.replicate 4 true) (inFrame .bsCode)).stream.length ∧ Instr.fhBs0.bsCode? = some 0 ∧
    Instr.fhBs15.bsCode? = some 15 ∧ Instr.fhSr14.srCode? = some 14 ∧ Instr.fhSr15.srCode? = some 15 := by decide

theorem witness_ChannelCodes :
    4 ≤ (feed (List.replicate 4 true) (inFrame .chCode)).stream.length ∧ Instr.fhCh7.chCode? = some 7 ∧
    Instr.fhCh8.chCode? = some 8 ∧ Instr.fhCh10.chCode? = some 10 ∧ Instr.fhCh11.chCode? = some 11 := by decide

theorem witness_DepthCodes :
    Instr.fhBps3.bpsCode? = some (3, false) ∧ (Instr.fhReservedB1 3).bpsCode? = some (3, true) ∧
    Instr.fhBps7.bpsCode? = some (7, false) ∧ (7 : Nat) ≠ 3 ∧
    (feed (List.replicate 2 true) (inFrame .bpsCode)).stream.length < 3 ∧
    3 ≤ (feed (List.replicate 3 true) (inFrame .bpsCode)).stream.length ∧
    (feed (List.replicate 3 true) (inFrame .bpsCode)).stream.length = 3 ∧
    4 ≤ (feed (List.replicate 4 true) (inFrame .bpsCode)).stream.length ∧
    (feed (List.replicate 4 true) (inFrame .bpsCode)).bitsLeft = 4 := by decide

theorem witness_NumberFirstByte :
    let s := { feed (List.replicate 8 true) (inFrame .number) with fh.bsCode := 1, fh.srCode := 14 }
    8 ≤ s.stream.length ∧ (Instr.numLead00 127).numberLead? = some (1, 127) ∧ Instr.numLeadFE.numberLead? = some (7, 0) ∧
    s.fh.bsCode ≠ 0 ∧ s.fh.srCode ≠ 15 := by decide

theorem witness_NumberFollowingByte :
    let s :=
      { feed (List.replicate 8 true) (inFrame .numCont) with
        fh.bsCode := 1, fh.srCode := 14, seq.numAcc := 2 ^ 30 - 1, seq.numLeft := 1 }
    8 ≤ s.stream.length ∧ s.seq.numAcc.toNat < 2 ^ 30 ∧ 1 ≤ s.seq.numLeft.toNat ∧ s.fh.bsCode ≠ 0 ∧ s.fh.srCode ≠ 15 := by
  decide

theorem witness_TrailingFields :
    let s := { feed (List.replicate 16 true) (inFrame .bs16) with fh.bsCode := 7, fh.srCode := 14 }
    s.fh.bsCode ≠ 0 ∧ s.fh.srCode ≠ 15 ∧ 16 ≤ s.stream.length ∧
    8 ≤ (feed (List.replicate 8 true) (inFrame .bs8)).stream.length := by decide

theorem witness_HeaderChecksum :
    let s := feed (List.replicate 8 true) (inFrame .crc8)
    8 ≤ s.stream.length ∧ s.fh.channels ≠ 0 ∧
    (feed (List.replicate 7 true) (inFrame .crc8)).stream.length < 8 := by decide

theorem witness_ReservedSubframes :
    1 ≤ (feed [true] (inFrame .subframe)).stream.length ∧
    7 ≤ (feed (List.replicate 7 false) (inFrame .subframe)).stream.length ∧
    (Instr.sfReservedTypes2To3 0).reservedType? = some 2 ∧ (Instr.sfReservedTypes16To31 15).reservedType? = some 31 := by decide

theorem witness_SubframeHeader :
    let full := feed (false :: natToBits 6 63 ++ true :: wastedBits 15 ++ [true]) (inFrame .subframe)
    let one := { feed (false :: natToBits 6 63 ++ true :: wastedBits 1 ++ [true]) (inFrame .subframe) with sf.fullW := 1 }
    let past := feed (false :: natToBits 6 63 ++ true :: List.replicate 15 false ++ [true]) (inFrame .subframe)
    (32 ≤ 63 ∧ 63 ≤ 31 + full.cfg.maxLpcOrder.val ∧ SubframeKind.lpc = .lpc ∧ 32 = 63 - 31) ∧
    (8 ≤ 12 ∧ 12 ≤ 8 + full.cfg.maxFixedOrder.val ∧ SubframeKind.fixed = .fixed ∧ 4 = 12 - 8) ∧
    (15 < full.fullWidthNow ∧ full.stream = false :: natToBits 6 63 ++ decide (0 < 15) :: wastedBits 15 ++ [true]) ∧
    ((1 = 1 ∧ one.fullWidthNow = 1) ∧ one.stream = false :: natToBits 6 63 ++ decide (0 < 1) :: wastedBits 1 ++ [true]) ∧
    (15 = (past.fullWidthNow - 2) + 1 ∧
      past.stream = false :: natToBits 6 63 ++ true :: List.replicate 15 false ++ [true]) := by decide +kernel

theorem witness_ConstantSubframe :
    let bits := (Instr.sfConstant true).encode ++ wastedBits 15 ++ signedBits 1 (-1) ++ [true]
    let s := { feed bits (inFrame .subframe) with fh.channels := 2 }
    15 < s.fullWidthNow ∧ s.fullWidthNow - 15 ≤ s.cfg.maxReadWidth ∧ s.sf.ch.toNat < s.cfg.maxChannels.val ∧
    s.fh.blockSize.toNat ≤ s.cfg.maxBlock.val ∧
    fits (s.fullWidthNow - 15) (-1) = true ∧ Instr.sfConstant (decide (0 < 15)) = .sfConstant true ∧ s.stream = bits ∧
    s.sf.ch.toNat + 1 < s.fh.channels.toNat := by decide +kernel

theorem witness_VerbatimSubframe :
    let bits := (Instr.sfVerbatim false).encode ++ wastedBits 0 ++ [-32768, 32767, 0, -1].flatMap (signedBits 16) ++ [true]
    let s := { feed bits (inFrame .subframe) with fh.channels := 2 }
    0 < s.fullWidthNow ∧ s.fullWidthNow - 0 ≤ s.cfg.maxReadWidth ∧ s.sf.ch.toNat < s.cfg.maxChannels.val ∧
    s.fh.blockSize.toNat ≤ s.cfg.maxBlock.val ∧
    [-32768, 32767, 0, -1].length = s.fh.blockSize.toNat ∧ (∀ v ∈ [-32768, 32767, 0, -1], fits (s.fullWidthNow - 0) v = true) ∧
    Instr.sfVerbatim (decide (0 < 0)) = .sfVerbatim false ∧ s.stream = bits ∧
    s.sf.ch.toNat + 1 < s.fh.channels.toNat := by decide +kernel

theorem witness_FixedWarmup :
    let bits := (Instr.sfFixed4 true).encode ++ wastedBits 1 ++ [-16384, 16383, 0, -1].flatMap (signedBits 15) ++ [true]
    let s := feed bits (inFrame .subframe)
    let low := { s with cfg.maxFixedOrder := 3 }
    ((Instr.sfFixed4 true).fixedOrder? = some (4, decide (0 < 1)) ∧ low.cfg.maxFixedOrder.val < 4 ∧ 7 ≤ low.stream.length) ∧
    4 ≤ s.cfg.maxFixedOrder.val ∧ s.sf.ch.toNat < s.cfg.maxChannels.val ∧ 4 ≤ s.cfg.maxBlock.val ∧ 1 < s.fullWidthNow ∧
    s.fullWidthNow - 1 ≤ s.cfg.maxReadWidth ∧ [-16384, 16383, 0, -1].length = 4 ∧
    (∀ v ∈ [-16384, 16383, 0, -1], fits (s.fullWidthNow - 1) v = true) ∧ s.stream = bits := by decide +kernel

theorem witness_LpcHeaderAndCoefficients :
    let bits :=
      (Instr.sfLpc2 false).encode ++ wastedBits 0 ++ [100, -200].flatMap (signedBits 16) ++ natToBits 4 (15 - 1) ++
        natToBits 5 15 ++ [-16384, 16383].flatMap (signedBits 15) ++ [true]
    let s := feed bits (inFrame .subframe)
    let low := { s with cfg.maxLpcOrder := 1 }
    ((Instr.sfLpc2 false).lpcOrder? = some (2, decide (0 < 0)) ∧ low.cfg.maxLpcOrder.val < 2 ∧ 7 ≤ low.stream.length) ∧
    2 ≤ s.cfg.maxLpcOrder.val ∧ s.sf.ch.toNat < s.cfg.maxChannels.val ∧ 2 ≤ s.cfg.maxBlock.val ∧ 0 < s.fullWidthNow ∧
    s.fullWidthNow - 0 ≤ s.cfg.maxReadWidth ∧ (∀ v ∈ [100, -200], fits (s.fullWidthNow - 0) v = true) ∧
    1 ≤ 15 ∧ 15 ≤ 15 ∧ 15 ≤ s.cfg.maxReadWidth ∧ [-16384, 16383].length = 2 ∧
    (∀ q ∈ [-16384, 16383], fits 15 q = true) ∧ s.stream = bits := by decide +kernel

theorem witness_LpcAndPartitionErrors :
    let bad := feed (natToBits 4 15 ++ [true]) (inFrame .subframe)
    let wide := { feed (natToBits 4 14 ++ [true]) (inFrame .subframe) with cfg.maxReadWidth := 14 }
    let shift := feed (natToBits 4 14 ++ natToBits 5 16 ++ [true]) (inFrame .subframe)
    let part := { feed (natToBits 5 30) (inFrame .part5) with cfg.maxReadWidth := 29 }
    bad.stream = natToBits 4 15 ++ [true] ∧
    (wide.cfg.maxReadWidth < 14 + 1 ∧ wide.stream = natToBits 4 14 ++ [true]) ∧
    (14 + 1 ≤ shift.cfg.maxReadWidth ∧ shift.stream = natToBits 4 14 ++ natToBits 5 16 ++ [true]) ∧
    ((Instr.part5K 30).riceParameter? = some (5, 30) ∧ part.cfg.maxReadWidth < 30 ∧ 5 ≤ part.stream.length) ∧
    part.cfg.maxReadWidth < (30 : BitVec 5).toNat := by decide +kernel

theorem witness_ResidualHeader :
    6 ≤ (feed (List.replicate 6 false) (inFrame .residual)).stream.length ∧
    (2 ≤ (feed (List.replicate 5 false) (inFrame .residual)).stream.length ∧
      (feed (List.replicate 5 false) (inFrame .residual)).stream.length < 6) ∧
    2 ≤ (feed (List.replicate 2 true) (inFrame .residual)).stream.length := by decide

theorem witness_RicePartition :
    let bits := (Instr.part4K 14).encode ++ [-(2 ^ 20), 2 ^ 20, 0].flatMap (riceBits 14) ++ [true]
    let s := { feed bits (inFrame .part4) with sf.order := 1 }
    (Instr.part4K 14).riceParameter? = some (4, 14) ∧ (Instr.part4K 14).wellFormed = true ∧ 14 ≤ s.cfg.maxReadWidth ∧
    ([-(2 ^ 20), 2 ^ 20, 0] : List Int).length = s.fh.blockSize.toNat / 2 ^ s.res.porder.toNat - s.sf.order.toNat ∧
    s.res.part.toNat = 0 ∧ s.sf.ch.toNat < s.cfg.maxChannels.val ∧ s.sf.order.toNat + 3 ≤ s.cfg.maxBlock.val ∧
    (∀ v ∈ ([-(2 ^ 20), 2 ^ 20, 0] : List Int), -(2 ^ 31 : Int) ≤ v ∧ v ≤ 2 ^ 31 - 1) ∧ s.stream = bits ∧
    2 ^ s.res.porder.toNat ≤ s.res.part.toNat + 1 := by decide +kernel

theorem witness_RicePartition_middle :
    let bits := (Instr.part5K 0).encode ++ [1, -1].flatMap (riceBits 0) ++ [true]
    let s := { feed bits (inFrame .part5) with sf.order := 1, res.porder := 1, res.part := 1, fh.blockSize := 4 }
    let first := { feed ((Instr.part5K 0).encode ++ [1].flatMap (riceBits 0)) (inFrame .part5) with sf.order := 1, res.porder := 1 }
    (Instr.part5K 0).riceParameter? = some (5, 0) ∧ s.stream = bits ∧ s.res.part.toNat ≠ 0 ∧
    [1, -1].length = s.fh.blockSize.toNat / 2 ^ s.res.porder.toNat ∧
    first.stream = (Instr.part5K 0).encode ++ [1].flatMap (riceBits 0) ++ [] ∧
    [1].length = first.fh.blockSize.toNat / 2 ^ first.res.porder.toNat - first.sf.order.toNat ∧
    first.res.part.toNat + 1 < 2 ^ first.res.porder.toNat := by decide +kernel

theorem witness_EscapedPartition :
    let wide := natToBits 5 31 ++ [-(2 ^ 30), 2 ^ 30 - 1, 0, 1].flatMap (signedBits 31) ++ [true]
    let none := natToBits 5 0 ++ [0, 0, 0, 0].flatMap (signedBits 0) ++ [true]
    let s := feed wide (inFrame .esc)
    let t := feed none (inFrame .esc)
    4 ≤ (feed (List.replicate 4 true) (inFrame .part4)).stream.length ∧
    5 ≤ (feed (List.replicate 5 true) (inFrame .part5)).stream.length ∧
    ((31 : BitVec 5).toNat ≤ s.cfg.maxReadWidth ∧ s.sf.ch.toNat < s.cfg.maxChannels.val ∧ s.sf.order.toNat + 4 ≤ s.cfg.maxBlock.val ∧
      [-(2 ^ 30), 2 ^ 30 - 1, 0, 1].length = s.fh.blockSize.toNat / 2 ^ s.res.porder.toNat - s.sf.order.toNat ∧
      (∀ v ∈ ([-(2 ^ 30), 2 ^ 30 - 1, 0, 1] : List Int), fits 31 v = true) ∧ s.stream = wide) ∧
    ((0 : BitVec 5).toNat ≤ t.cfg.maxReadWidth ∧ (∀ v ∈ ([0, 0, 0, 0] : List Int), fits 0 v = true) ∧ t.stream = none) := by
  decide +kernel

theorem witness_RiceRoundTrip :
    30 ≤ 30 ∧ (-(2 ^ 31 : Int) ≤ -(2 ^ 31) ∧ (-(2 ^ 31) : Int) ≤ 2 ^ 31 - 1) ∧
    (feed (riceBits 30 (-(2 ^ 31)) ++ [true]) (inFrame .part5)).stream = riceBits 30 (-(2 ^ 31)) ++ [true] ∧
    (feed (List.replicate (2 ^ (32 - 30)) false ++ [true]) (inFrame .part5)).stream =
      List.replicate (2 ^ (32 - 30)) false ++ [true] := by decide +kernel

theorem witness_FoldIsABijection : 2 ^ 32 - 1 < 2 ^ 32 := by decide

/-- Row 0 of `SUB` holds these values. -/
def row (values : List Int) (s : State) : State :=
  { s with sub := values.mapIdx fun i v => (i, v) }

theorem witness_FixedPrediction :
    let e : Nat → Int := fun i => [1, 4, 9, 0].getD i 0
    let x : Nat → Int := fun i => [1, 4, 9, 16].getD i 0
    let s := { row [1, 4, 9, 0] (inFrame .part4) with sf.kind := .fixed, sf.order := 3, fh.channels := 2 }
    s.sf.kind = .fixed ∧ 3 ≤ 4 ∧ s.sf.order.toNat = 3 ∧ 3 ≤ s.fh.blockSize.toNat ∧ s.sf.ch.toNat < s.cfg.maxChannels.val ∧
    s.fh.blockSize.toNat ≤ s.cfg.maxBlock.val ∧
    (∀ i < 4, 0 ≤ i → SampleRam.read (sampleKey 0 i) s.sub = some (e i)) ∧ (∀ i < 3, x i = e i) ∧
    (∀ i < 4, 3 ≤ i → x i = fixedPrediction 3 x i + e i) ∧ (∀ i < 4, 3 ≤ i → inRange s.sf.w.toNat (x i) = true) ∧
    s.sf.ch.toNat + 1 < s.fh.channels.toNat := by decide +kernel

theorem witness_LpcPrediction :
    let e : Nat → Int := fun i => [100, -200, 5, -3].getD i 0
    let x : Nat → Int := fun i => [100, -200, -345, -421].getD i 0
    let s :=
      { row [100, -200, 5, -3] (inFrame .part4) with
        sf.kind := .lpc, sf.order := 2, fh.channels := 2, lpc.shift := 1
        lpc.qlp := (State.reset.lpc.qlp.setIfInBounds 0 3).setIfInBounds 1 (-1) }
    s.sf.kind = .lpc ∧ 1 ≤ 2 ∧ s.sf.order.toNat = 2 ∧ 2 ≤ s.fh.blockSize.toNat ∧ s.sf.ch.toNat < s.cfg.maxChannels.val ∧
    s.fh.blockSize.toNat ≤ s.cfg.maxBlock.val ∧
    (∀ i < 4, 0 ≤ i → SampleRam.read (sampleKey 0 i) s.sub = some (e i)) ∧ (∀ i < 2, x i = e i) ∧
    (∀ i < 4, 2 ≤ i → x i = lpcPrediction s.lpc 2 x i + e i) ∧ (∀ i < 4, 2 ≤ i → inRange s.sf.w.toNat (x i) = true) ∧
    s.sf.ch.toNat + 1 < s.fh.channels.toNat := by decide +kernel

theorem witness_PredictionRangeError :
    let e : Nat → Int := fun i => [32767, 0, 1, 0].getD i 0
    let x : Nat → Int := fun i => [32767, 32767, 32768, 32768].getD i 0
    let s := { row [32767, 0, 1, 0] (inFrame .part4) with sf.kind := .fixed, sf.order := 1 }
    (s.sf.kind = .fixed ∧ s.sf.order.toNat ≤ 4) ∧ s.sf.order.toNat = 1 ∧ s.sf.ch.toNat < s.cfg.maxChannels.val ∧
    s.fh.blockSize.toNat ≤ s.cfg.maxBlock.val ∧
    (∀ i < 4, 0 ≤ i → SampleRam.read (sampleKey 0 i) s.sub = some (e i)) ∧ (∀ i < 1, x i = e i) ∧
    (∀ i < 4, 1 ≤ i → x i = fixedPrediction 1 x i + e i) ∧ s.cfg.rangeCheck = true ∧ 1 ≤ 2 ∧ 2 < 4 ∧
    (∀ i < 2, 1 ≤ i → inRange s.sf.w.toNat (x i) = true) ∧ inRange s.sf.w.toNat (x 2) = false := by decide +kernel

/-- Rows 0 and 1 hold four values each. -/
def twoRows (a b : Int) (s : State) : State :=
  { s with
    sub := (List.range 4).map (fun i => (i, a)) ++ (List.range 4).map (fun i => (65536 + i, b))
    fh := { s.fh with channels := 2, assign := .leftSide } }

theorem witness_ChannelReconstruction :
    let f : Nat → Nat → Int := fun c _ => if c = 0 then 32767 else -1
    let g : Nat → Nat → Int := fun c _ => if c = 0 then 32767 else 0
    let bad := twoRows 32767 (-1) (inFrame .subframe)
    let good := twoRows 32767 0 (inFrame .subframe)
    bad.fh.channels.toNat ≤ bad.cfg.maxChannels.val ∧ bad.fh.blockSize.toNat ≤ bad.cfg.maxBlock.val ∧ bad.fh.channels.toNat = 2 ∧ bad.cfg.rangeCheck = true ∧
    (∀ c < 2, ∀ i < 4, 0 ≤ i → SampleRam.read (sampleKey c i) bad.sub = some (f c i)) ∧
    inRange bad.fh.bps.toNat (decorrelated bad.fh.assign f 1 0) = false ∧
    (∀ c < 2, ∀ i < 4, 0 ≤ i → SampleRam.read (sampleKey c i) good.sub = some (g c i)) ∧
    (∀ c < 2, ∀ i < 4, inRange good.fh.bps.toNat (decorrelated good.fh.assign g c i) = true) := by decide +kernel

theorem witness_PaddingCheck :
    (let s := { inFrame .pad with bitsLeft := 7 }
     s.seq.pos = .pad ∧ s.bitsLeft < 8) ∧ (inFrame .pad).cfg.paddingCheck = true ∧ true ∈ [false, true] := by decide

theorem witness_FooterAndCommit :
    let s := { feed (natToBits 16 0) (twoRows 1 2 (inFrame .footer)) with crc16 := 0 }
    16 ≤ s.stream.length ∧ (1 : BitVec 16) ≠ s.crc16 ∧ (0 : BitVec 16) = s.crc16 ∧ s.fh.channels.toNat ≤ s.cfg.maxChannels.val ∧
    s.fh.blockSize.toNat ≤ s.cfg.maxBlock.val ∧
    (∀ c < s.fh.channels.toNat, ∀ i < s.fh.blockSize.toNat, 0 ≤ i →
      SampleRam.read (sampleKey c i) s.sub = some ((fun c _ => if c = 0 then 1 else 2 : Nat → Nat → Int) c i)) ∧
    (feed (natToBits 15 0) (inFrame .footer)).stream.length < 16 := by decide +kernel

/-- The header of a frame of one VERBATIM channel with two samples, its CRC-8 left out. -/
def verbatimHeader : List Byte := [0xFF, 0xF8, 0x70, 0x00, 0x00, 0x00, 0x01]

/-- Its subframe: the samples 1 and -1. -/
def verbatimBody : List Byte := [0x02, 0x00, 0x01, 0xFF, 0xFF]

theorem witness_PullDecodesVerbatimFrame :
    let crc8 := verbatimHeader.foldl crc8Step 0
    let crc16 := (verbatimHeader ++ [crc8] ++ verbatimBody).foldl crc16Step 0
    let rows : List (List Int) := [[1, -1]]
    let src : List SrcAnswer :=
      (verbatimHeader ++ [crc8] ++ verbatimBody).map .byte ++
        [.byte (crc16.extractLsb' 8 8), .byte (crc16.extractLsb' 0 8)] ++ []
    let s := { ready [] with si := { si1 with total := 0 }, src := src }
    s.seq.pos = .host ∧ s.state = .ready ∧ s.si.total = 0 ∧ 1 ≤ rows.length ∧
    rows.length ≤ s.cfg.maxChannels.val ∧ 2 ≤ s.cfg.maxBlock.val ∧ 2 ≤ s.si.maxBlock.toNat ∧
    s.cfg.blockSizeCheck ≠ .minMax ∧ 1 ≤ s.si.bps.toNat ∧ s.si.bps.toNat ≤ 32 ∧ s.si.bps.toNat ≤ s.cfg.maxReadWidth ∧
    (∀ row ∈ rows, row.length = 2 ∧ ∀ v ∈ row, fits s.si.bps.toNat v = true) ∧
    verbatimHeader.flatMap byteToBits =
      natToBits 16 0xFFF8 ++ natToBits 4 7 ++ natToBits 4 0 ++ natToBits 4 (rows.length - 1) ++ natToBits 4 0 ++
        natToBits 8 (0 : BitVec 7).toNat ++ natToBits 16 (2 - 1) ∧
    verbatimBody.flatMap byteToBits = rows.flatMap (fun row => natToBits 8 2 ++ row.flatMap (signedBits 16)) ++ [] ∧
    s.src = src := by decide +kernel

end Sys2Proof.Machine.Tests
end

/-!
SUPPORT. Operations that only read the stream: each moves the cursor, and where it stops, the command has ended by an
error or by the end of the sequence.
-/

namespace Sys2Proof.Machine

/-- How a command ends at the cursor `u`: by an error (R304), by a failure of the source (R134), or, where no byte of a frame
has been taken, by the end of the sequence (R133). -/
inductive Exit (u : State) : State → Prop where
  | error (k : ErrorKind) (sub : Nat) : Exit u (errorEntry k sub 0 u)
  | ioError (e : BitVec 32) (rest : List SrcAnswer) : Exit u (errorEntry .ioError 0 e { u with src := rest })
  | sequenceEnd (h : u.atPullStart = true) : Exit u (endOfSequence u)

/-- An operation that moves the cursor and does nothing else, but that it can end the command. -/
def Reader {α : Type} (m : M α) : Prop :=
  ∀ s : State, (∃ a n, m s = .ok a (s.skip n)) ∨ ∃ n t, m s = .error .ended t ∧ Exit (s.skip n) t

/-- The fetch that finds no byte ends the command. -/
theorem exit_noByte {s : State} (h : s.stream = []) : Exit s s.noByte := by
  unfold State.noByte
  split
  · split
    · exact .sequenceEnd ‹_›
    · exact .error _ _
  · exact .ioError _ _
  · rename_i b rest hsrc
    simp [State.stream, hsrc, answerBits_byte, natToBits_succ] at h

theorem skip_bitsLeft_le {s : State} (h : s.bitsLeft ≤ 8) (n : Nat) : (s.skip n).bitsLeft ≤ 8 := by
  induction n generalizing s with
  | zero => exact h
  | succ n ih =>
    refine ih (Nat.le_trans (Nat.sub_le _ 1) ?_)
    unfold State.loaded
    split
    · split <;> simp_all [fetched]
    · exact h

/-- A move of the cursor never puts a PULL back at its start (R26). -/
theorem atPullStart_of_skip {s : State} {n : Nat} (h : (s.skip n).atPullStart = true) : s.atPullStart = true := by
  induction n generalizing s with
  | zero => exact h
  | succ n ih =>
    have hl : s.loaded.atPullStart = true := ih (s := s.loaded.bitTaken) h
    unfold State.loaded at hl
    split at hl
    · split at hl <;> simp_all [fetched]
    · exact hl

namespace Reader

variable {α β : Type}

theorem pure (a : α) : Reader (Pure.pure a) := fun _ => .inl ⟨a, 0, rfl⟩

theorem ask (f : State → α) : Reader (ask f) := fun s => .inl ⟨f s, 0, rfl⟩

theorem bind {m : M α} {f : α → M β} (hm : Reader m) (hf : ∀ a, Reader (f a)) : Reader (m >>= f) := by
  intro s
  obtain ⟨a, n, h⟩ | ⟨n, t, h, ht⟩ := hm s
  · obtain ⟨b, k, h'⟩ | ⟨k, t, h', ht⟩ := hf a (s.skip n)
    · exact .inl ⟨b, n + k, by rw [bind_ok h, h', skip_add]⟩
    · exact .inr ⟨n + k, t, by rw [bind_ok h, h'], by rwa [skip_add]⟩
  · exact .inr ⟨n, t, bind_error h, ht⟩

theorem raise (k : ErrorKind) (sub : Nat) : Reader (raise k sub : M α) :=
  fun _ => .inr ⟨0, _, rfl, .error k sub⟩

theorem raiseIf (c : Bool) (k : ErrorKind) (sub : Nat) : Reader (raiseIf c k sub) := by
  cases c
  · exact pure ()
  · exact raise k sub

theorem readBit : Reader readBit := by
  intro s
  match hs : s.stream with
  | [] => exact .inr ⟨0, _, readBit_none hs, exit_noByte hs⟩
  | b :: bs => exact .inl ⟨b, 1, (readBit_ok hs).1⟩

theorem readUFrom (n v : Nat) : Reader (readUFrom v n) := by
  induction n generalizing v with
  | zero => exact pure v
  | succ n ih => exact readBit.bind fun _ => ih _

theorem readU (n : Nat) : Reader (readU n) := readUFrom n 0

theorem readS (n : Nat) : Reader (readS n) := (readU n).bind fun _ => pure _

theorem skipBits (n : Nat) : Reader (skipBits n) := (readU n).bind fun _ => pure _

theorem unaryFrom (q : Nat) (k : ErrorKind) (sub left : Nat) : Reader (unaryFrom q k sub left) := by
  induction left generalizing q with
  | zero =>
    refine readBit.bind fun b => ?_
    cases b
    · exact raise k sub
    · exact pure q
  | succ left ih =>
    refine readBit.bind fun b => ?_
    cases b
    · exact ih _
    · exact pure q

theorem readUnary (limit : Int) (k : ErrorKind) (sub : Nat) : Reader (readUnary limit k sub) := unaryFrom 0 k sub _

theorem readBytes (n : Nat) : Reader (readBytes n) := by
  induction n with
  | zero => exact pure []
  | succ n ih => exact (readU 8).bind fun _ => ih.bind fun _ => pure _

theorem readRice (k : Nat) : Reader (readRice k) := (readUnary _ _ _).bind fun _ => (readU k).bind fun _ => pure _

theorem checkWidth (n sub : Nat) : Reader (checkWidth n sub) := (ask _).bind fun _ => raiseIf _ _ _

theorem wastedCount (flag : Bool) : Reader (wastedCount flag) := by
  cases flag
  · exact pure 0
  · exact (ask _).bind fun _ => (readUnary _ _ _).bind fun _ => pure _

theorem rangeCheckSample (w : Nat) (v : Int) : Reader (rangeCheckSample w v) := (ask _).bind fun _ => raiseIf _ _ _

theorem partitionCheck : Reader partitionCheck :=
  (ask _).bind fun _ => (raiseIf _ _ _).bind fun _ => raiseIf _ _ _

theorem firstBlockCheck : Reader firstBlockCheck :=
  (ask _).bind fun _ => (raiseIf _ _ _).bind fun _ => raiseIf _ _ _

theorem blockSizeLimit : Reader blockSizeLimit := by
  refine (ask _).bind fun fault => ?_
  cases fault
  · exact pure ()
  · exact raise _ _

end Reader

end Sys2Proof.Machine

/-!
SUPPORT. The elements of a command by their operations: which operation an instruction's meaning runs, and that the decoder
gives an element of the position it is asked for.
-/

namespace Sys2Proof.Machine

/-- The operations that stand at a position of the grammar (R140, R275), with what an instruction's operands allow. -/
inductive Element : Position → M Unit → Prop where
  | marker (m : BitVec 32) : Element .marker (readMarker m)
  | streamInfo (last : Bool) (len : BitVec 24) : Element .metadata (streamInfoBlock last len)
  | raw (last : Bool) (type : BitVec 7) (len : BitVec 24) (h : type ≠ 0) : Element .metadata (rawBlock last type len)
  | sync (blocking : Bool) : Element .sync (syncAndBlocking blocking)
  | badSync : Element .sync badSync
  | badReservedA : Element .sync badReservedA
  | bsCode (k : Nat) : Element .bsCode (blockSizeCode k)
  | srCode (k : Nat) : Element .srCode (sampleRateCode k)
  | chCode (k : Nat) : Element .chCode (channelCode k)
  | bpsCode (k : Nat) : Element .bpsCode (depthCodeAndReservedB k)
  | badReservedB (k : Nat) : Element .bpsCode (badReservedB k)
  | numberLead (len x : Nat) : Element .number (numberLead len x)
  | badNumberLead : Element .number badNumberLead
  | numberByte (c : BitVec 8) : Element .numCont (numberByte c)
  | bs8 (t : BitVec 8) : Element .bs8 (trailingBlockSize 8 t.toNat)
  | bs16 (t : BitVec 16) : Element .bs16 (trailingBlockSize 16 t.toNat)
  | sr8 (t : Nat) : Element .sr8 (trailingRate 8 t 1000)
  | sr16 (t : Nat) : Element .sr16 (trailingRate 16 t 1)
  | sr16x10 (t : Nat) : Element .sr16x10 (trailingRate 16 t 10)
  | crc8 (crc : BitVec 8) : Element .crc8 (headerCrc crc)
  | badSubframeReserved : Element .subframe badSubframeReserved
  | badSubframeType (type : Nat) (h : 2 ≤ type ∧ type < 8 ∨ 13 ≤ type ∧ type < 32) :
    Element .subframe (badSubframeType type)
  | constant (wasted : Bool) : Element .subframe (constantSubframe wasted)
  | verbatim (wasted : Bool) : Element .subframe (verbatimSubframe wasted)
  | fixed (order : Nat) (wasted : Bool) (h : order ≤ 4) : Element .subframe (fixedSubframe order wasted)
  | lpc (order : Nat) (wasted : Bool) (h : 1 ≤ order ∧ order ≤ 32) : Element .subframe (lpcSubframe order wasted)
  | residual (method : Nat) (porder : BitVec 4) : Element .residual (residualHeader method porder)
  | badCodingMethod (method : Nat) : Element .residual (badCodingMethod method)
  | rice4 (k : Nat) : Element .part4 (ricePartition 4 k)
  | rice5 (k : Nat) : Element .part5 (ricePartition 5 k)
  | escape4 : Element .part4 (escapePartition 4)
  | escape5 : Element .part5 (escapePartition 5)
  | escaped (width : Nat) : Element .esc (escapedValues width)
  | pad (bits : Bits) : Element .pad (framePadding bits)
  | footer (crc : BitVec 16) : Element .footer (frameFooter crc)

/-- Every instruction but a command runs an operation of its position. -/
theorem element_of_runElement (i : Instr) (h : i.position ≠ .host) :
    ∃ m, Element i.position m ∧ ∀ s, runElement i s = outcome m s := by
  cases i with
  | cmdReset | cmdOpen | cmdPull | cmdReserved3 => exact absurd rfl h
  | marker m => exact ⟨_, .marker m, fun _ => rfl⟩
  | mdStreaminfo last len => exact ⟨_, .streamInfo last len, fun _ => rfl⟩
  | mdPadding last len | mdApplication last len | mdSeektable last len | mdVorbisComment last len
  | mdCuesheet last len | mdPicture last len | mdUnknownTypes7To7 last len =>
    exact ⟨_, .raw last _ len (by decide), fun _ => rfl⟩
  | mdUnknownTypes8To15 last t len | mdUnknownTypes16To31 last t len | mdUnknownTypes32To63 last t len
  | mdUnknownTypes64To127 last t len =>
    exact ⟨_, .raw last _ len (by bv_omega), fun _ => rfl⟩
  | fhBlocking0 | fhBlocking1 => exact ⟨_, .sync _, fun _ => rfl⟩
  | fhBadSync _ => exact ⟨_, .badSync, fun _ => rfl⟩
  | fhReservedA1 => exact ⟨_, .badReservedA, fun _ => rfl⟩
  | fhReservedB1 bps => exact ⟨_, .badReservedB _, fun _ => rfl⟩
  | fhBs0 | fhBs1 | fhBs2 | fhBs3 | fhBs4 | fhBs5 | fhBs6 | fhBs7 | fhBs8 | fhBs9 | fhBs10 | fhBs11 | fhBs12 | fhBs13
  | fhBs14 | fhBs15 => exact ⟨_, .bsCode _, fun _ => rfl⟩
  | fhSr0 | fhSr1 | fhSr2 | fhSr3 | fhSr4 | fhSr5 | fhSr6 | fhSr7 | fhSr8 | fhSr9 | fhSr10 | fhSr11 | fhSr12 | fhSr13
  | fhSr14 | fhSr15 => exact ⟨_, .srCode _, fun _ => rfl⟩
  | fhCh0 | fhCh1 | fhCh2 | fhCh3 | fhCh4 | fhCh5 | fhCh6 | fhCh7 | fhCh8 | fhCh9 | fhCh10 | fhCh11 | fhCh12 | fhCh13
  | fhCh14 | fhCh15 => exact ⟨_, .chCode _, fun _ => rfl⟩
  | fhBps0 | fhBps1 | fhBps2 | fhBps3 | fhBps4 | fhBps5 | fhBps6 | fhBps7 => exact ⟨_, .bpsCode _, fun _ => rfl⟩
  | numLead00 _ | numLeadC0 _ | numLeadE0 _ | numLeadF0 _ | numLeadF8 _ | numLeadFC _ | numLeadFE =>
    exact ⟨_, .numberLead _ _, fun _ => rfl⟩
  | numLead80 _ | numLeadFF => exact ⟨_, .badNumberLead, fun _ => rfl⟩
  | numContinuation c => exact ⟨_, .numberByte c, fun _ => rfl⟩
  | bs8 t => exact ⟨_, .bs8 t, fun _ => rfl⟩
  | bs16 t => exact ⟨_, .bs16 t, fun _ => rfl⟩
  | sr8 t => exact ⟨_, .sr8 _, fun _ => rfl⟩
  | sr16 t => exact ⟨_, .sr16 _, fun _ => rfl⟩
  | sr16x10 t => exact ⟨_, .sr16x10 _, fun _ => rfl⟩
  | crc8 crc => exact ⟨_, .crc8 crc, fun _ => rfl⟩
  | sfReserved1 => exact ⟨_, .badSubframeReserved, fun _ => rfl⟩
  | sfConstant wasted => exact ⟨_, .constant wasted, fun _ => rfl⟩
  | sfVerbatim wasted => exact ⟨_, .verbatim wasted, fun _ => rfl⟩
  | sfReservedTypes2To3 x | sfReservedTypes4To7 x | sfReservedTypes14To15 x | sfReservedTypes16To31 x =>
    exact ⟨_, .badSubframeType _ (by have := x.isLt; omega), fun _ => rfl⟩
  | sfReservedType13 => exact ⟨_, .badSubframeType 13 (by decide), fun _ => rfl⟩
  | sfFixed0 wasted | sfFixed1 wasted | sfFixed2 wasted | sfFixed3 wasted | sfFixed4 wasted =>
    exact ⟨_, .fixed _ wasted (by decide), fun _ => rfl⟩
  | sfLpc1 wasted | sfLpc2 wasted | sfLpc3 wasted | sfLpc4 wasted | sfLpc5 wasted | sfLpc6 wasted | sfLpc7 wasted
  | sfLpc8 wasted | sfLpc9 wasted | sfLpc10 wasted | sfLpc11 wasted | sfLpc12 wasted | sfLpc13 wasted
  | sfLpc14 wasted | sfLpc15 wasted | sfLpc16 wasted | sfLpc17 wasted | sfLpc18 wasted | sfLpc19 wasted
  | sfLpc20 wasted | sfLpc21 wasted | sfLpc22 wasted | sfLpc23 wasted | sfLpc24 wasted | sfLpc25 wasted
  | sfLpc26 wasted | sfLpc27 wasted | sfLpc28 wasted | sfLpc29 wasted | sfLpc30 wasted | sfLpc31 wasted
  | sfLpc32 wasted => exact ⟨_, .lpc _ wasted (by decide), fun _ => rfl⟩
  | resMethod0 porder | resMethod1 porder => exact ⟨_, .residual _ porder, fun _ => rfl⟩
  | resMethod2To3 _ => exact ⟨_, .badCodingMethod _, fun _ => rfl⟩
  | part4K k => exact ⟨_, .rice4 _, fun _ => rfl⟩
  | part5K k => exact ⟨_, .rice5 _, fun _ => rfl⟩
  | part4Escape => exact ⟨_, .escape4, fun _ => rfl⟩
  | part5Escape => exact ⟨_, .escape5, fun _ => rfl⟩
  | esc width => exact ⟨_, .escaped _, fun _ => rfl⟩
  | pad bits => exact ⟨_, .pad bits, fun _ => rfl⟩
  | crc16 crc => exact ⟨_, .footer crc, fun _ => rfl⟩

/-- Inside a command `exec` is the element's effect (R271). -/
theorem exec_eq_runElement (i : Instr) (h : i.position ≠ .host) (s : State) : exec i s = runElement i s := by
  cases i with
  | cmdReset | cmdOpen | cmdPull | cmdReserved3 => exact absurd rfl h
  | _ => rfl

end Sys2Proof.Machine

/-!
SUPPORT. The decoder's answer at a position: with 32 bits ahead it reads an element, and one of that position (R104).
-/

namespace Sys2Proof

theorem field_ok {n : Nat} {bs : Bits} (h : n ≤ bs.length) : field n bs = .ok (bitsToNat 0 (bs.take n), bs.drop n) :=
  if_pos h

/-- A field that is there is read, whatever is decoded after it. -/
theorem field_bind {α : Type} {n : Nat} {bs : Bits} (h : n ≤ bs.length) (f : Nat × Bits → Except DecodeError α) :
    field n bs >>= f = f (bitsToNat 0 (bs.take n), bs.drop n) := by
  rw [field_ok h]
  rfl

theorem position_metadataOf (last : Bool) (type : Nat) (len : BitVec 24) :
    (metadataOf last type len).position = .metadata := by
  unfold metadataOf
  split
  case h_9 => split_ifs <;> rfl
  all_goals rfl

theorem position_bsCodeOf (k : Nat) : (bsCodeOf k).position = .bsCode := by
  unfold bsCodeOf
  split <;> rfl

theorem position_srCodeOf (k : Nat) : (srCodeOf k).position = .srCode := by
  unfold srCodeOf
  split <;> rfl

theorem position_chCodeOf (k : Nat) : (chCodeOf k).position = .chCode := by
  unfold chCodeOf
  split <;> rfl

theorem position_bpsCodeOf (k : Nat) : (bpsCodeOf k).position = .bpsCode := by
  unfold bpsCodeOf
  split <;> rfl

theorem position_numberLeadOf (b : Nat) : (numberLeadOf b).position = .number := by
  unfold numberLeadOf
  split_ifs <;> rfl

theorem position_reservedSubframeOf {type : Nat} {i : Instr} (h : reservedSubframeOf type = some i) :
    i.position = .subframe := by
  unfold reservedSubframeOf at h
  split_ifs at h <;> cases h <;> rfl

theorem position_subframeOf (type : Nat) (wasted : Bool) : (subframeOf type wasted).position = .subframe := by
  unfold subframeOf
  split <;> rfl

theorem position_commandOf (c : Nat) : (commandOf c).position = .host := by
  unfold commandOf
  split <;> rfl

/-- An element of the position is read. -/
def Decodes (pos : Position) (r : Except DecodeError (Instr × Bits)) : Prop := ∃ i rest, r = .ok (i, rest) ∧ i.position = pos

theorem Decodes.ok {pos : Position} {i : Instr} {rest : Bits} (h : i.position = pos) : Decodes pos (.ok (i, rest)) :=
  ⟨i, rest, rfl, h⟩

/-- With 32 bits ahead an element of the position is read at every position (R104). -/
theorem decode_ok (pos : Position) {align : Nat} {bs : Bits} (ha : align ≤ 32) (h : 32 ≤ bs.length) :
    Decodes pos (decode pos align bs) := by
  cases pos with
  | host =>
    rw [decode, field_bind (by omega)]
    exact .ok (position_commandOf _)
  | metadata =>
    rw [decode, field_bind (by omega)]
    dsimp only
    rw [field_bind (by simp; omega)]
    dsimp only
    rw [field_bind (by simp; omega)]
    exact .ok (position_metadataOf _ _ _)
  | sync =>
    rw [decode, field_bind (by omega)]
    dsimp only
    split
    · exact .ok rfl
    · rw [field_bind (by simp; omega)]
      dsimp only
      split
      · exact .ok rfl
      · rw [field_bind (by simp; omega)]
        dsimp only
        split <;> exact .ok rfl
  | bsCode =>
    rw [decode, field_bind (by omega)]
    exact .ok (position_bsCodeOf _)
  | srCode =>
    rw [decode, field_bind (by omega)]
    exact .ok (position_srCodeOf _)
  | chCode =>
    rw [decode, field_bind (by omega)]
    exact .ok (position_chCodeOf _)
  | bpsCode =>
    rw [decode, field_bind (by omega)]
    dsimp only
    rw [field_bind (by simp; omega)]
    dsimp only
    split
    · exact .ok rfl
    · exact .ok (position_bpsCodeOf _)
  | number =>
    rw [decode, field_bind (by omega)]
    exact .ok (position_numberLeadOf _)
  | subframe =>
    rw [decode, field_bind (by omega)]
    dsimp only
    split
    · exact .ok rfl
    · rw [field_bind (by simp; omega)]
      dsimp only
      split
      · exact .ok (position_reservedSubframeOf ‹_›)
      · rw [field_bind (by simp; omega)]
        exact .ok (position_subframeOf _ _)
  | residual =>
    rw [decode, field_bind (by omega)]
    dsimp only
    split
    · exact .ok rfl
    · rw [field_bind (by simp; omega)]
      dsimp only
      split <;> exact .ok rfl
  | part4 | part5 =>
    rw [decode, field_bind (by omega)]
    dsimp only
    split <;> exact .ok rfl
  | marker | numCont | bs8 | bs16 | sr8 | sr16 | sr16x10 | crc8 | esc | footer =>
    rw [decode, field_bind (by omega)]
    exact .ok rfl
  | pad =>
    rw [decode, if_pos (by omega)]
    exact .ok rfl

/-- A command code on the command interface is its command (R102). -/
theorem decode_command (c : BitVec 2) : decode .host 0 (natToBits 2 c.toNat) = .ok (commandOf c.toNat, []) := by
  have h := field_natToBits c.isLt []
  rw [List.append_nil] at h
  rw [decode, h]
  rfl

namespace Machine

/-- The sequencer looks at 32 bits, zeros where the source has no more. -/
theorem upcoming_length (s : State) : (upcoming s).length = 32 := by
  simp only [upcoming, List.length_take, List.length_append, natToBits_length]
  omega

/-- The element at the cursor is one of the sequencer's position. -/
theorem decodeHere_ok {s : State} (h : s.bitsLeft ≤ 8) : ∃ i rest, decodeHere s = .ok (i, rest) ∧ i.position = s.seq.pos :=
  decode_ok s.seq.pos (by omega) (upcoming_length s).ge

/-- Inside a command the element at the cursor is an operation of the sequencer's position. -/
theorem elementStep_eq {s : State} (h : s.bitsLeft ≤ 8) (hp : s.seq.pos ≠ .host) :
    ∃ m, Element s.seq.pos m ∧ elementStep s = outcome m s := by
  obtain ⟨i, rest, hi, hpos⟩ := decodeHere_ok h
  obtain ⟨m, hm, hrun⟩ := element_of_runElement i (hpos ▸ hp)
  exact ⟨m, hpos ▸ hm, by rw [elementStep, hi]; exact hrun s⟩

end Machine

end Sys2Proof

/-!
SUPPORT. What every operation of a command keeps: a relation between states that holds across register writes, cursor moves
and writes of `SUB` holds across every element, and with one more closure each, across OPEN's elements and the commit.
-/

namespace Sys2Proof.Machine

/-- What only some operations write: the configuration, StreamInfo, the sample RAMs, the counters and the frame port. -/
def State.data (s : State) :
    Config × StreamInfo × SampleRam × SampleRam × SampleRam × BitVec 64 × BitVec 64 × List FrameRecord :=
  (s.cfg, s.si, s.sub, s.subEarlier, s.out, s.framesOk, s.samplesOut, s.frameOut)

/-- The other registers are written: the sequencer does not enter OPEN, and `BITS_LEFT` stays in its range. -/
structure SameData (s t : State) : Prop where
  data : t.data = s.data
  position : inOpen t.seq.pos = true → inOpen s.seq.pos = true
  bitsLeft : s.bitsLeft ≤ 8 → t.bitsLeft ≤ 8

/-- A relation that register writes and writes of `SUB` stay inside. -/
structure Closed (R : State → State → Prop) : Prop where
  trans : ∀ {s t u}, R s t → R t u → R s u
  registers : ∀ {s t}, SameData s t → R s t
  writeSub : ∀ {s : State} {c i : Nat} (v : Int), sampleExists s.cfg c i = true →
    R s { s with sub := SampleRam.write (sampleKey c i) v s.sub }

/-- And the sequencer's turn to an element of OPEN. -/
structure OpenClosed (R : State → State → Prop) : Prop extends Closed R where
  turn : ∀ (s : State) (p : Position), R s { s with seq.pos := p }

/-- And the writes of StreamInfo. -/
structure StreamInfoClosed (R : State → State → Prop) : Prop extends OpenClosed R where
  streamInfo : ∀ (s : State) (si : StreamInfo), R s { s with si := si }

/-- And the writes of a commit. -/
structure CommitClosed (R : State → State → Prop) : Prop extends Closed R where
  writeOut : ∀ {s : State} {c i : Nat} (v : Int), sampleExists s.cfg c i = true →
    R s { s with out := SampleRam.write (sampleKey c i) v s.out }
  commit : ∀ (s : State) (records : List FrameRecord) (frames samples : BitVec 64),
    R s { s with frameOut := records, framesOk := frames, samplesOut := samples }

/-- However an operation ends, it leaves a state in the relation. -/
def Keeps (R : State → State → Prop) {α : Type} (m : M α) : Prop :=
  ∀ s, match m s with
    | .ok _ t => R s t
    | .error _ t => R s t

theorem Keeps.outcome {R : State → State → Prop} {m : M Unit} (hm : Keeps R m) {s t : State}
    (h : outcome m s = .next t) : R s t := by
  have := hm s
  obtain h | h := outcome_eq_next.mp h <;> rwa [h] at this

namespace Closed

variable {R : State → State → Prop} {α β : Type} (h : Closed R)

include h

theorem refl (s : State) : R s s := h.registers ⟨rfl, id, id⟩

theorem exit {u t : State} (ht : Exit u t) : R u t := by
  cases ht with
  | error | ioError | sequenceEnd => exact h.registers ⟨rfl, nofun, id⟩

theorem skip (n : Nat) (s : State) : R s (s.skip n) :=
  h.registers ⟨by simp [State.data], by simp, fun hs => skip_bitsLeft_le hs n⟩

theorem reads {m : M α} (hm : Reader m) : Keeps R m := by
  intro s
  obtain ⟨a, n, hs⟩ | ⟨n, t, hs, ht⟩ := hm s <;> rw [hs]
  · exact h.skip n s
  · exact h.trans (h.skip n s) (h.exit ht)

theorem pure (a : α) : Keeps R (Pure.pure a : M α) := h.refl

theorem ask (f : State → α) : Keeps R (ask f) := h.refl

theorem skipBits (n : Nat) : Keeps R (skipBits n) := h.reads (.skipBits n)

theorem raise (k : ErrorKind) (sub : Nat) : Keeps R (raise k sub : M α) := h.reads (.raise k sub)

theorem raiseIf (c : Bool) (k : ErrorKind) (sub : Nat) : Keeps R (raiseIf c k sub) := h.reads (.raiseIf c k sub)

theorem bind {m : M α} {f : α → M β} (hm : Keeps R m) (hf : ∀ a, Keeps R (f a)) : Keeps R (m >>= f) := by
  intro s
  have hs := hm s
  rw [bind_run]
  cases hms : m s with
  | error e t => rwa [hms] at hs
  | ok a t =>
    rw [hms] at hs
    have ht := hf a t
    dsimp only
    cases hft : f a t <;> rw [hft] at ht <;> exact h.trans hs ht

theorem update {f : State → State} (hf : ∀ s, SameData s (f s)) : Keeps R (update f) := fun s => h.registers (hf s)

theorem goto {p : Position} (hp : inOpen p = false) : Keeps R (goto p) :=
  h.update fun _ => ⟨rfl, fun hq => absurd (hp.symm.trans hq) nofun, id⟩

theorem forRange {f : Nat → M Unit} (hf : ∀ i, Keeps R (f i)) (start n : Nat) : Keeps R (forRange start n f) := by
  induction n generalizing start with
  | zero => exact h.pure ()
  | succ n ih => exact h.bind (hf start) fun _ => ih _

theorem readSample (c i : Nat) : Keeps R (readSample c i) := by
  intro s
  rw [readSample_run]
  by_cases he : sampleExists s.cfg c i = true
  · rw [if_pos he]
    cases SampleRam.read (sampleKey c i) s.sub <;> exact h.refl s
  · rw [if_neg he]
    exact h.refl s

theorem writeSample (c i : Nat) (v : Int) : Keeps R (writeSample c i v) := by
  intro s
  rw [writeSample_run]
  by_cases he : sampleExists s.cfg c i = true
  · rw [if_pos he]
    exact h.writeSub v he
  · rw [if_neg he]
    exact h.refl s

theorem readSamples (c : Nat) {read : M Int} (hr : Reader read) (i n : Nat) : Keeps R (readSamples c read i n) := by
  induction n generalizing i with
  | zero => exact h.pure ()
  | succ n ih => exact h.bind (h.reads hr) fun _ => h.bind (h.writeSample _ _ _) fun _ => ih _

theorem historySum (c : Nat) (coefs : List Int) (i : Nat) : Keeps R (historySum c coefs i) := by
  induction coefs generalizing i with
  | nil => exact h.pure 0
  | cons q qs ih => exact h.bind (h.readSample _ _) fun _ => h.bind (ih _) fun _ => h.pure _

/-! ### Channels -/

theorem reconstructChannels (a : Assignment) (n : Nat) : Keeps R (reconstructChannels a n) := by
  cases a with
  | independent => exact h.pure ()
  | leftSide | rightSide =>
    exact h.forRange (fun _ => h.bind (h.readSample _ _) fun _ => h.bind (h.readSample _ _) fun _ => h.writeSample _ _ _) _ _
  | middleSide =>
    exact h.forRange (fun _ => h.bind (h.readSample _ _) fun _ => h.bind (h.readSample _ _) fun _ =>
      h.bind (h.writeSample _ _ _) fun _ => h.writeSample _ _ _) _ _

theorem checkOutputRange (channels n w : Nat) : Keeps R (checkOutputRange channels n w) :=
  h.forRange (fun _ => h.forRange (fun _ => h.bind (h.readSample _ _) fun _ => h.raiseIf _ _ _) _ _) _ _

theorem finishChannels : Keeps R finishChannels := by
  refine h.bind (h.ask _) fun _ => h.bind (h.reconstructChannels _ _) fun _ => h.bind (h.ask _) fun check => ?_
  cases check
  · exact h.goto rfl
  · exact h.bind (h.checkOutputRange _ _ _) fun _ => h.goto rfl

theorem startChannel (c : Nat) : Keeps R (startChannel c) := by
  refine h.bind (h.ask _) fun fh => ?_
  split
  · exact h.bind (h.update fun _ => ⟨rfl, id, id⟩) fun _ => h.goto rfl
  · exact h.finishChannels

theorem framePadding (bits : Bits) : Keeps R (framePadding bits) :=
  h.bind (h.ask _) fun _ => h.bind (h.skipBits _) fun _ => h.bind (h.ask _) fun _ => h.bind (h.raiseIf _ _ _) fun _ =>
    h.goto rfl

/-! ### Frame header -/

theorem badSync : Keeps R badSync := h.bind (h.skipBits _) fun _ => h.raise _ _

theorem badReservedA : Keeps R badReservedA := h.bind (h.skipBits _) fun _ => h.bind (h.skipBits _) fun _ => h.raise _ _

theorem syncAndBlocking (blocking : Bool) : Keeps R (syncAndBlocking blocking) :=
  h.bind (h.skipBits _) fun _ => h.bind (h.skipBits _) fun _ => h.bind (h.skipBits _) fun _ =>
    h.bind (h.update fun _ => ⟨rfl, id, id⟩) fun _ => h.goto rfl

theorem blockSizeCode (k : Nat) : Keeps R (blockSizeCode k) :=
  h.bind (h.skipBits _) fun _ => h.bind (h.update fun _ => ⟨rfl, id, id⟩) fun _ => h.bind (h.raiseIf _ _ _) fun _ =>
    h.goto rfl

theorem sampleRateCode (k : Nat) : Keeps R (sampleRateCode k) :=
  h.bind (h.skipBits _) fun _ => h.bind (h.update fun _ => ⟨rfl, id, id⟩) fun _ => h.bind (h.raiseIf _ _ _) fun _ =>
    h.goto rfl

theorem channelCode (k : Nat) : Keeps R (channelCode k) := by
  refine h.bind (h.skipBits _) fun _ => h.bind (h.update fun _ => ⟨rfl, id, id⟩) fun _ => ?_
  split
  · exact h.bind (h.update fun _ => ⟨rfl, id, id⟩) fun _ => h.goto rfl
  · exact h.raise _ _

theorem depthCode (k : Nat) : Keeps R (depthCode k) := by
  refine h.bind (h.skipBits _) fun _ => h.bind (h.update fun _ => ⟨rfl, id, id⟩) fun _ => h.bind (h.ask _) fun si => ?_
  split
  · exact h.update fun _ => ⟨rfl, id, id⟩
  · exact h.raise _ _

theorem depthCodeAndReservedB (k : Nat) : Keeps R (depthCodeAndReservedB k) :=
  h.bind (h.depthCode k) fun _ => h.bind (h.skipBits _) fun _ => h.goto rfl

theorem badReservedB (k : Nat) : Keeps R (badReservedB k) :=
  h.bind (h.depthCode k) fun _ => h.bind (h.skipBits _) fun _ => h.raise _ _

theorem resolveRate : Keeps R resolveRate := by
  refine h.bind (h.ask _) fun code => h.bind (h.ask _) fun si => ?_
  split
  · exact h.goto rfl
  split
  · exact h.goto rfl
  split
  · exact h.goto rfl
  split
  · exact h.bind (h.update fun _ => ⟨rfl, id, id⟩) fun _ => h.goto rfl
  · exact h.raise _ _

theorem resolveBlockSize : Keeps R resolveBlockSize := by
  refine h.bind (h.ask _) fun code => ?_
  split
  · exact h.goto rfl
  split
  · exact h.goto rfl
  split
  · exact h.bind (h.update fun _ => ⟨rfl, id, id⟩) fun _ => h.resolveRate
  · exact h.raise _ _

theorem numberDone (v : BitVec 36) : Keeps R (numberDone v) :=
  h.bind (h.update fun _ => ⟨rfl, id, id⟩) fun _ => h.resolveBlockSize

theorem numberLead (len x : Nat) : Keeps R (numberLead len x) := by
  refine h.bind (h.skipBits _) fun _ => h.bind (h.ask _) fun _ => h.bind (h.raiseIf _ _ _) fun _ => ?_
  split
  · exact h.numberDone _
  · exact h.bind (h.update fun _ => ⟨rfl, id, id⟩) fun _ => h.goto rfl

theorem badNumberLead : Keeps R badNumberLead := h.bind (h.skipBits _) fun _ => h.raise _ _

theorem numberByte (c : BitVec 8) : Keeps R (numberByte c) := by
  refine h.bind (h.skipBits _) fun _ => h.bind (h.raiseIf _ _ _) fun _ => h.bind (h.ask _) fun q => ?_
  dsimp only
  split
  · exact h.numberDone _
  · exact h.update fun _ => ⟨rfl, id, id⟩

theorem trailingBlockSize (bits t : Nat) : Keeps R (trailingBlockSize bits t) :=
  h.bind (h.skipBits _) fun _ => h.bind (h.update fun _ => ⟨rfl, id, id⟩) fun _ => h.resolveRate

theorem trailingRate (bits t unit : Nat) : Keeps R (trailingRate bits t unit) :=
  h.bind (h.skipBits _) fun _ => h.bind (h.update fun _ => ⟨rfl, id, id⟩) fun _ => h.goto rfl

theorem headerCrc (crc : BitVec 8) : Keeps R (headerCrc crc) :=
  h.bind (h.update fun _ => ⟨rfl, id, id⟩) fun _ => h.bind (h.skipBits _) fun _ =>
    h.bind (h.update fun _ => ⟨rfl, id, id⟩) fun _ => h.bind (h.ask _) fun _ => h.bind (h.raiseIf _ _ _) fun _ =>
      h.bind (h.reads .blockSizeLimit) fun _ => h.startChannel 0

/-! ### Subframes -/

theorem subframeType (type : Nat) : Keeps R (subframeType type) := by
  refine h.bind (h.skipBits _) fun _ => h.bind (h.update fun _ => ⟨rfl, id, id⟩) fun _ => h.bind (h.ask _) fun cfg => ?_
  split
  · exact h.update fun _ => ⟨rfl, id, id⟩
  · exact h.raise _ _

theorem badSubframeReserved : Keeps R badSubframeReserved := h.bind (h.skipBits _) fun _ => h.raise _ _

theorem badSubframeType (type : Nat) : Keeps R (badSubframeType type) :=
  h.bind (h.skipBits _) fun _ => h.subframeType type

theorem subframeHeader (type : Nat) (flag : Bool) : Keeps R (subframeHeader type flag) :=
  h.bind (h.skipBits _) fun _ => h.bind (h.subframeType type) fun _ => h.bind (h.skipBits _) fun _ =>
    h.bind (h.reads (.wastedCount flag)) fun _ => h.bind (h.update fun _ => ⟨rfl, id, id⟩) fun _ =>
      h.bind (h.update fun _ => ⟨rfl, id, id⟩) fun _ => h.bind (h.ask _) fun _ => h.reads (.checkWidth _ _)

theorem wastedShift (c n k : Nat) : Keeps R (wastedShift c n k) :=
  h.forRange (fun _ => h.bind (h.readSample _ _) fun _ => h.writeSample _ _ _) _ _

theorem finishSubframe : Keeps R finishSubframe :=
  h.bind (h.ask _) fun _ => h.bind (h.ask _) fun _ => h.bind (h.wastedShift _ _ _) fun _ => h.startChannel _

theorem constantSubframe (flag : Bool) : Keeps R (constantSubframe flag) :=
  h.bind (h.subframeHeader 0 flag) fun _ => h.bind (h.ask _) fun _ => h.bind (h.ask _) fun _ =>
    h.bind (h.reads (.readS _)) fun _ => h.bind (h.forRange (fun _ => h.writeSample _ _ _) _ _) fun _ => h.finishSubframe

theorem verbatimSubframe (flag : Bool) : Keeps R (verbatimSubframe flag) :=
  h.bind (h.subframeHeader 1 flag) fun _ => h.bind (h.ask _) fun _ => h.bind (h.ask _) fun _ =>
    h.bind (h.readSamples _ (.readS _) _ _) fun _ => h.finishSubframe

theorem warmup (order : Nat) : Keeps R (warmup order) := h.bind (h.ask _) fun _ => h.readSamples _ (.readS _) _ _

theorem fixedSubframe (order : Nat) (flag : Bool) : Keeps R (fixedSubframe order flag) :=
  h.bind (h.subframeHeader _ flag) fun _ => h.bind (h.warmup order) fun _ => h.goto rfl

theorem lpcHeader : Keeps R lpcHeader :=
  h.bind (h.reads (.readU 4)) fun _ => h.bind (h.raiseIf _ _ _) fun _ => h.bind (h.update fun _ => ⟨rfl, id, id⟩) fun _ =>
    h.bind (h.reads (.checkWidth _ _)) fun _ => h.bind (h.reads (.readS 5)) fun _ => h.bind (h.raiseIf _ _ _) fun _ =>
      h.update fun _ => ⟨rfl, id, id⟩

theorem lpcCoefs (prec j n : Nat) : Keeps R (lpcCoefs prec j n) := by
  induction n generalizing j with
  | zero => exact h.pure ()
  | succ n ih => exact h.bind (h.reads (.readS prec)) fun _ => h.bind (h.update fun _ => ⟨rfl, id, id⟩) fun _ => ih _

theorem lpcSubframe (order : Nat) (flag : Bool) : Keeps R (lpcSubframe order flag) :=
  h.bind (h.subframeHeader _ flag) fun _ => h.bind (h.warmup order) fun _ => h.bind h.lpcHeader fun _ =>
    h.bind (h.ask _) fun _ => h.bind (h.lpcCoefs _ _ _) fun _ => h.goto rfl

theorem predictRow (c : Nat) (coefs : List Int) (shift w order n : Nat) :
    Keeps R (predictRow c coefs shift w order n) :=
  h.forRange (fun _ => h.bind (h.historySum _ _ _) fun _ => h.bind (h.readSample _ _) fun _ =>
    h.bind (h.reads (.rangeCheckSample _ _)) fun _ => h.writeSample _ _ _) _ _

theorem reconstructSubframe : Keeps R reconstructSubframe :=
  h.bind (h.ask _) fun _ => h.bind (h.ask _) fun _ => h.bind (h.ask _) fun _ => h.bind (h.predictRow _ _ _ _ _ _) fun _ =>
    h.finishSubframe

/-! ### Residual -/

theorem gotoPartition (method : Nat) : Keeps R (Machine.goto (partitionPosition method)) :=
  h.goto (by unfold partitionPosition; split <;> rfl)

theorem residualHeader (method : Nat) (porder : BitVec 4) : Keeps R (residualHeader method porder) :=
  h.bind (h.skipBits _) fun _ => h.bind (h.update fun _ => ⟨rfl, id, id⟩) fun _ => h.bind (h.skipBits _) fun _ =>
    h.bind (h.update fun _ => ⟨rfl, id, id⟩) fun _ => h.bind (h.reads .partitionCheck) fun _ =>
      h.bind (h.update fun _ => ⟨rfl, id, id⟩) fun _ => h.gotoPartition method

theorem badCodingMethod (method : Nat) : Keeps R (badCodingMethod method) :=
  h.bind (h.skipBits _) fun _ => h.bind (h.update fun _ => ⟨rfl, id, id⟩) fun _ => h.raise _ _

theorem partitionValues {read : M Int} (hr : Reader read) : Keeps R (partitionValues read) :=
  h.bind (h.ask _) fun _ => h.readSamples _ hr _ _

theorem nextPartition : Keeps R nextPartition := by
  refine h.bind (h.ask _) fun res => ?_
  split
  · exact h.bind (h.update fun _ => ⟨rfl, id, id⟩) fun _ => h.gotoPartition _
  · exact h.reconstructSubframe

/-- The width check of a parameter that is not 0 (R234, R235). -/
theorem widthIfAny {m : M α} (hm : Keeps R m) (n sub : Nat) :
    Keeps R (if n ≥ 1 then do checkWidth n sub; m else m) := by
  split
  · exact h.bind (h.reads (.checkWidth _ _)) fun _ => hm
  · exact hm

theorem ricePartition (width k : Nat) : Keeps R (ricePartition width k) :=
  h.bind (h.skipBits _) fun _ => h.bind (h.update fun _ => ⟨rfl, id, id⟩) fun _ =>
    h.widthIfAny (h.bind (h.partitionValues (.readRice k)) fun _ => h.nextPartition) k 2

theorem escapePartition (width : Nat) : Keeps R (escapePartition width) :=
  h.bind (h.skipBits _) fun _ => h.bind (h.update fun _ => ⟨rfl, id, id⟩) fun _ => h.goto rfl

theorem escapedValues (width : Nat) : Keeps R (escapedValues width) :=
  h.bind (h.skipBits _) fun _ => h.bind (h.update fun _ => ⟨rfl, id, id⟩) fun _ =>
    h.widthIfAny (h.bind (h.partitionValues (.readS width)) fun _ => h.nextPartition) width 1

/-- Every element of PULL but the footer stays inside the relation. -/
theorem pullElement {p : Position} {m : M Unit} (he : Element p m) (hp : inOpen p = false) (hf : p ≠ .footer) :
    Keeps R m := by
  cases he with
  | marker | streamInfo | raw => exact absurd hp nofun
  | footer => exact absurd rfl hf
  | sync => exact h.syncAndBlocking _
  | badSync => exact h.badSync
  | badReservedA => exact h.badReservedA
  | bsCode => exact h.blockSizeCode _
  | srCode => exact h.sampleRateCode _
  | chCode => exact h.channelCode _
  | bpsCode => exact h.depthCodeAndReservedB _
  | badReservedB => exact h.badReservedB _
  | numberLead => exact h.numberLead _ _
  | badNumberLead => exact h.badNumberLead
  | numberByte => exact h.numberByte _
  | bs8 | bs16 => exact h.trailingBlockSize _ _
  | sr8 | sr16 | sr16x10 => exact h.trailingRate _ _ _
  | crc8 => exact h.headerCrc _
  | badSubframeReserved => exact h.badSubframeReserved
  | badSubframeType => exact h.badSubframeType _
  | constant => exact h.constantSubframe _
  | verbatim => exact h.verbatimSubframe _
  | fixed => exact h.fixedSubframe _ _
  | lpc => exact h.lpcSubframe _ _
  | residual => exact h.residualHeader _ _
  | badCodingMethod => exact h.badCodingMethod _
  | rice4 | rice5 => exact h.ricePartition _ _
  | escape4 | escape5 => exact h.escapePartition _
  | escaped => exact h.escapedValues _
  | pad => exact h.framePadding _

end Closed

/-! ### Metadata -/

namespace OpenClosed

variable {R : State → State → Prop} (h : OpenClosed R)

include h

theorem gotoMetadata : Keeps R (goto .metadata) := fun s => h.turn s .metadata

theorem readMarker (m : BitVec 32) : Keeps R (readMarker m) :=
  h.bind (h.skipBits _) fun _ => h.bind (h.raiseIf _ _ _) fun _ => h.bind (h.update fun _ => ⟨rfl, id, id⟩) fun _ =>
    h.gotoMetadata

theorem blockHeader (last : Bool) (type : BitVec 7) (len : BitVec 24) : Keeps R (blockHeader last type len) :=
  h.bind (h.skipBits _) fun _ => h.bind (h.update fun _ => ⟨rfl, id, id⟩) fun _ => h.bind (h.skipBits _) fun _ =>
    h.bind (h.update fun _ => ⟨rfl, id, id⟩) fun _ => h.bind (h.skipBits _) fun _ => h.update fun _ => ⟨rfl, id, id⟩

theorem endBlock : Keeps R endBlock := by
  refine h.bind (h.update fun _ => ⟨rfl, id, id⟩) fun _ => h.bind (h.ask _) fun last => ?_
  cases last
  · exact h.gotoMetadata
  · exact h.update fun _ => ⟨rfl, nofun, id⟩

theorem emitMetadata (r : MetadataRecord) : Keeps R (emitMetadata r) := h.update fun _ => ⟨rfl, id, id⟩

theorem rawBody (len : Nat) : Keeps R (rawBody len) :=
  h.bind (h.reads (.readBytes len)) fun _ => h.bind (h.ask _) fun _ => h.emitMetadata _

theorem rawBlock (last : Bool) (type : BitVec 7) (len : BitVec 24) : Keeps R (rawBlock last type len) :=
  h.bind (h.blockHeader _ _ _) fun _ => h.bind (h.reads .firstBlockCheck) fun _ => h.bind (h.rawBody _) fun _ => h.endBlock

end OpenClosed

namespace StreamInfoClosed

variable {R : State → State → Prop} (h : StreamInfoClosed R)

include h

/-- A field of the body read, its register written. -/
theorem readField {n : Nat} {f : Nat → State → State} (hf : ∀ v s, ∃ si, f v s = { s with si := si }) {m : M Unit}
    (hm : Keeps R m) : Keeps R (do let v ← readU n; update (f v); m) := by
  refine h.bind (h.reads (.readU n)) fun v => h.bind (fun s => ?_) fun _ => hm
  obtain ⟨si, hsi⟩ := hf v s
  rw [update_run, hsi]
  exact h.streamInfo s si

theorem streamInfoFields : Keeps R streamInfoFields := by
  iterate 8 refine h.readField (fun _ _ => ⟨_, rfl⟩) ?_
  refine h.bind (h.reads (.readU 64)) fun _ => h.readField (fun _ _ => ⟨_, rfl⟩) ?_
  exact fun s => h.streamInfo s _

theorem streamInfoBlock (last : Bool) (len : BitVec 24) : Keeps R (streamInfoBlock last len) :=
  h.bind (h.blockHeader _ _ _) fun _ => h.bind (h.reads .firstBlockCheck) fun _ => h.bind (h.raiseIf _ _ _) fun _ =>
    h.bind h.streamInfoFields fun _ => h.bind (h.ask _) fun _ => h.bind (h.emitMetadata _) fun _ => h.endBlock

/-- Every element of OPEN stays inside the relation. -/
theorem openElement {p : Position} {m : M Unit} (he : Element p m) (hp : inOpen p = true) : Keeps R m := by
  cases he with
  | marker => exact h.readMarker _
  | streamInfo => exact h.streamInfoBlock _ _
  | raw => exact h.rawBlock _ _ _
  | _ => exact absurd hp nofun

end StreamInfoClosed

/-! ### The commit -/

namespace CommitClosed

variable {R : State → State → Prop} (h : CommitClosed R)

include h

theorem copySample (c i : Nat) (v : Int) : Keeps R (Machine.writeOut c i v) := by
  intro s
  rw [writeOut_run]
  by_cases he : sampleExists s.cfg c i = true
  · rw [if_pos he]
    exact h.writeOut v he
  · rw [if_neg he]
    exact h.refl s

theorem commitRow (c i n : Nat) : Keeps R (commitRow c i n) := by
  induction n generalizing i with
  | zero => exact h.pure []
  | succ n ih =>
    exact h.bind (h.readSample _ _) fun _ => h.bind (h.copySample _ _ _) fun _ => h.bind (ih _) fun _ => h.pure _

theorem commitRows (n c k : Nat) : Keeps R (commitRows n c k) := by
  induction k generalizing c with
  | zero => exact h.pure []
  | succ k ih => exact h.bind (h.commitRow _ _ _) fun _ => h.bind (ih _) fun _ => h.pure _

theorem emitFrame (r : FrameRecord) : Keeps R (emitFrame r) := fun s => h.commit s _ s.framesOk s.samplesOut

theorem committed : Keeps R (update committed) := fun s =>
  h.trans (h.commit s s.frameOut _ _) (h.registers ⟨rfl, nofun, id⟩)

theorem commitFrame (crc : BitVec 16) : Keeps R (commitFrame crc) :=
  h.bind (h.ask _) fun _ => h.bind (h.commitRows _ _ _) fun _ => h.bind (h.emitFrame _) fun _ => h.committed

theorem frameFooter (crc : BitVec 16) : Keeps R (frameFooter crc) :=
  h.bind (h.update fun _ => ⟨rfl, id, id⟩) fun _ => h.bind (h.skipBits _) fun _ => h.bind (h.ask _) fun _ =>
    h.bind (h.raiseIf _ _ _) fun _ => h.commitFrame crc

/-- Every element of PULL stays inside the relation. -/
theorem pullElement {p : Position} {m : M Unit} (he : Element p m) (hp : inOpen p = false) : Keeps R m := by
  by_cases hf : p = .footer
  · subst hf
    cases he
    exact h.frameFooter _
  · exact h.toClosed.pullElement he hp hf

end CommitClosed

end Sys2Proof.Machine

/-!
SUPPORT. What a step finds and what it can do: the cases of `fetchInstr`, the outcomes of `exec`, and a relation that every
operation stays inside, carried through a command's run to the step.
-/

namespace Sys2Proof.Machine

/-! ### What a step finds -/

theorem step_idle {s : State} (hp : s.seq.pos = .host) (hh : s.host = []) : step s = .next s := by
  rw [step, fetchInstr, if_pos hp, hh]

theorem step_source {s : State} {answers : List SrcAnswer} {rest : List HostInput} (hp : s.seq.pos = .host)
    (hh : s.host = .source answers :: rest) : step s = presentSource answers { s with host := rest } := by
  rw [step, fetchInstr, if_pos hp, hh]

theorem step_command {s : State} {c : BitVec 2} {rest : List HostInput} (hp : s.seq.pos = .host)
    (hh : s.host = .command c :: rest) : step s = exec (commandOf c.toNat) { s with host := rest } := by
  rw [step, fetchInstr, if_pos hp, hh]
  simp only [decode_command]

theorem step_element {s : State} {i : Instr} {rest : Bits} (hp : s.seq.pos ≠ .host) (hd : decodeHere s = .ok (i, rest)) :
    step s = exec i s := by
  rw [step, fetchInstr, if_neg hp, hd]

/-- The source's move is one of the contract's, and replaces the answers to come (R75, R332). -/
theorem presentSource_next {answers : List SrcAnswer} {s t : State} (h : presentSource answers s = .next t) :
    (s.state = .idle ∨ s.state = .ready) ∧ t = { s with src := answers } := by
  unfold presentSource at h
  cases hs : s.state <;> rw [hs] at h <;> cases h
  · exact ⟨.inl rfl, rfl⟩
  · exact ⟨.inr rfl, rfl⟩

/-- The cases of a step that answers a next state. -/
inductive Stepped (s t : State) : Prop where
  | idle (hp : s.seq.pos = .host) (h : t = s)
  | source (hp : s.seq.pos = .host) (answers : List SrcAnswer) (rest : List HostInput)
      (h : t = { s with src := answers, host := rest })
  | command (hp : s.seq.pos = .host) (c : BitVec 2) (rest : List HostInput)
      (h : exec (commandOf c.toNat) { s with host := rest } = .next t)
  | element (hp : s.seq.pos ≠ .host) (i : Instr) (rest : Bits) (hd : decodeHere s = .ok (i, rest)) (h : exec i s = .next t)

theorem stepped_of_step {s t : State} (h : step s = .next t) : Stepped s t := by
  by_cases hp : s.seq.pos = .host
  · match hh : s.host with
    | [] =>
      rw [step_idle hp hh] at h
      cases h
      exact .idle hp rfl
    | .source answers :: rest =>
      rw [step_source hp hh] at h
      exact .source hp answers rest (presentSource_next h).2
    | .command c :: rest => exact .command hp c rest (step_command hp hh ▸ h)
  · match hd : decodeHere s with
    | .ok (i, rest) => exact .element hp i rest hd (step_element hp hd ▸ h)
    | .error e =>
      rw [step, fetchInstr, if_neg hp, hd] at h
      cases h

/-! ### What an instruction does -/

theorem whenIdle_next {s t : State} {run : Host.Outcome State Fault Refusal} (h : whenIdle s run = .next t) :
    s.seq.pos = .host ∧ run = .next t := by
  unfold whenIdle at h
  split at h
  · exact ⟨‹_›, h⟩
  · cases h

/-- The outcomes of an instruction that answers a next state: an element's operation; or between commands RESET, a command that
only writes its result, the end of the counted samples, or the run of OPEN or of PULL (R270 to R278). -/
inductive Ran (s t : State) : Instr → Prop where
  | element {i : Instr} {m : M Unit} (he : Element i.position m) (h : outcome m s = .next t) : Ran s t i
  | reset (hp : s.seq.pos = .host) (h : t = resetCore s) : Ran s t .cmdReset
  | answered {i : Instr} (hp : s.seq.pos = .host) (r : LastResult) (h : t = { s with lastResult := r }) : Ran s t i
  | totalReached {i : Instr} (hs : s.state = .ready) (h : t = { s with state := .ended, lastResult := .ended }) : Ran s t i
  | opening (hs : s.state = .idle) (h : runCommand (beginOpen s) = .next t) : Ran s t .cmdOpen
  | pulling (hs : s.state = .ready) (h : runCommand (beginPull s) = .next t) : Ran s t .cmdPull

theorem ran_of_openStream {s t : State} (hp : s.seq.pos = .host) (h : openStream s = .next t) : Ran s t .cmdOpen := by
  unfold openStream at h
  split at h
  case h_1 hs => exact .opening hs h
  all_goals
    cases h
    exact .answered hp .rejected rfl

theorem ran_of_pullFrame {s t : State} (hp : s.seq.pos = .host) (h : pullFrame s = .next t) : Ran s t .cmdPull := by
  unfold pullFrame at h
  split at h
  case h_2 hs =>
    split at h
    · cases h
      exact .totalReached hs rfl
    · exact .pulling hs h
  all_goals
    cases h
    exact .answered hp _ rfl

theorem ran_of_exec {i : Instr} {s t : State} (h : exec i s = .next t) : Ran s t i := by
  by_cases hi : i.position = .host
  · cases i with
    | cmdReset =>
      obtain ⟨hp, h⟩ := whenIdle_next h
      cases h
      exact .reset hp rfl
    | cmdOpen =>
      obtain ⟨hp, h⟩ := whenIdle_next h
      exact ran_of_openStream hp h
    | cmdPull =>
      obtain ⟨hp, h⟩ := whenIdle_next h
      exact ran_of_pullFrame hp h
    | cmdReserved3 =>
      obtain ⟨hp, h⟩ := whenIdle_next h
      cases h
      exact .answered hp .rejected rfl
    | _ => cases hi
  · obtain ⟨m, he, hm⟩ := element_of_runElement i hi
    rw [exec_eq_runElement i hi, hm] at h
    exact .element he h

/-- Inside a command a step is an operation of the sequencer's position. -/
theorem step_eq_outcome {s : State} (h : s.bitsLeft ≤ 8) (hp : s.seq.pos ≠ .host) :
    ∃ m, Element s.seq.pos m ∧ step s = outcome m s := by
  obtain ⟨i, rest, hd, hpos⟩ := decodeHere_ok h
  obtain ⟨m, he, hm⟩ := element_of_runElement i (hpos ▸ hp)
  exact ⟨m, hpos ▸ he, by rw [step_element hp hd, exec_eq_runElement i (hpos ▸ hp), hm]⟩

/-- An element inside a command that answers a next state is an operation of the grammar. -/
theorem element_of_elementStep {s t : State} (h : elementStep s = .next t) :
    ∃ p m, Element p m ∧ outcome m s = .next t := by
  unfold elementStep at h
  split at h
  case h_1 i rest hd =>
    by_cases hi : i.position = .host
    · cases i with
      | cmdReset | cmdOpen | cmdPull | cmdReserved3 => cases h
      | _ => cases hi
    · obtain ⟨m, he, hm⟩ := element_of_runElement i hi
      exact ⟨_, m, he, hm s ▸ h⟩
  case h_2 => cases h

/-- What each element of a run keeps, the run keeps. -/
theorem drain_next {P : State → Prop} (element : ∀ s t, P s → s.seq.pos ≠ .host → elementStep s = .next t → P t) {n : Nat}
    {s t : State} (hs : P s) (h : drain n s = .next t) : P t := by
  induction n generalizing s with
  | zero =>
    cases h
    exact hs
  | succ n ih =>
    rw [drain] at h
    split at h
    · cases h
      exact hs
    · split at h
      · exact ih (element _ _ hs ‹_› ‹_›) h
      · cases h
      · cases h

/-! ### What every step keeps -/

/-- A relation that every operation of the machine stays inside. -/
structure MachineClosed (R : State → State → Prop) : Prop extends StreamInfoClosed R, CommitClosed R where
  reset : ∀ s, R s (resetCore s)
  newFrame : ∀ s, R s (newFrame s)

namespace MachineClosed

variable {R : State → State → Prop} (h : MachineClosed R)

include h

theorem element {p : Position} {m : M Unit} (he : Element p m) : Keeps R m := by
  cases hp : inOpen p
  · exact h.toCommitClosed.pullElement he hp
  · exact h.toStreamInfoClosed.openElement he hp

theorem runCommand {s t : State} (ht : runCommand s = .next t) : R s t :=
  drain_next (P := R s) (fun _ _ hu _ hv => by
    obtain ⟨p, m, he, hm⟩ := element_of_elementStep hv
    exact h.trans hu ((h.element he).outcome hm)) (h.refl s) ht

theorem beginOpen (s : State) : R s (beginOpen s) := by
  unfold Machine.beginOpen
  split
  · exact h.turn s .marker
  · exact h.trans (t := { s with md.count := 0 }) (h.registers ⟨rfl, id, id⟩) (h.turn _ .metadata)

theorem beginPull (s : State) : R s (beginPull s) :=
  h.trans (h.newFrame s) (h.registers ⟨rfl, nofun, fun _ => Nat.zero_le 8⟩)

theorem exec {i : Instr} {s t : State} (ht : exec i s = .next t) : R s t := by
  cases ran_of_exec ht with
  | element he hm => exact (h.element he).outcome hm
  | reset hp hu => exact hu ▸ h.reset s
  | answered hp r hu => exact hu ▸ h.registers ⟨rfl, id, id⟩
  | totalReached hs hu => exact hu ▸ h.registers ⟨rfl, id, id⟩
  | opening hs hu => exact h.trans (h.beginOpen s) (h.runCommand hu)
  | pulling hs hu => exact h.trans (h.beginPull s) (h.runCommand hu)

/-- Every step stays inside the relation. -/
theorem step {s t : State} (ht : step s = .next t) : R s t := by
  cases stepped_of_step ht with
  | idle hp hu => exact hu ▸ h.refl s
  | source hp answers rest hu => exact hu ▸ h.registers ⟨rfl, id, id⟩
  | command hp c rest hu => exact h.trans (h.registers (t := { s with host := rest }) ⟨rfl, id, id⟩) (h.exec hu)
  | element hp i rest hd hu => exact h.exec hu

end MachineClosed

/-! ### The sample RAMs -/

/-- The sample RAMs stay in canonical form. -/
def KeepsMemory (s t : State) : Prop := Memory.wf s = true → Memory.wf t = true

theorem memory_wf_iff {s : State} :
    Memory.wf s = true ↔ SampleRam.wf s.sub = true ∧ SampleRam.wf s.subEarlier = true ∧ SampleRam.wf s.out = true := by
  simp [Memory.wf, and_assoc]

theorem memory_wf_congr {s t : State} (h : t.data = s.data) : Memory.wf t = Memory.wf s := by
  simp only [State.data, Prod.mk.injEq] at h
  obtain ⟨-, -, hsub, hearlier, hout, -⟩ := h
  simp only [Memory.wf, hsub, hearlier, hout]

theorem keepsMemory_closed : MachineClosed KeepsMemory where
  trans h h' := h' ∘ h
  registers h hw := by rwa [memory_wf_congr h.data]
  writeSub v he := writeSample_wf (by rw [writeSample_run, if_pos he])
  writeOut v he := writeOut_wf (by rw [writeOut_run, if_pos he])
  turn _ _ := id
  streamInfo _ _ := id
  commit _ _ _ _ := id
  reset _ _ := reset_wf
  newFrame _ := newFrame_wf

/-- Settles O4: every write of a sample RAM goes to an entry that exists, and each operation of the machine keeps the form. -/
theorem stepKeepsMemoryCanonical : Obligations.StepKeepsMemoryCanonical :=
  fun _ _ hw h => keepsMemory_closed.step h hw

/-! ### The configuration -/

theorem sameConfig_closed : MachineClosed fun s t => t.cfg = s.cfg where
  trans h h' := h'.trans h
  registers h := congrArg Prod.fst h.data
  writeSub _ _ := rfl
  writeOut _ _ := rfl
  turn _ _ := rfl
  streamInfo _ _ := rfl
  commit _ _ _ _ := rfl
  reset _ := rfl
  newFrame _ := rfl

/-- Settles O6: no operation of the machine writes the configuration. -/
theorem configurationIsFixed : Obligations.ConfigurationIsFixed :=
  ⟨rfl, fun _ _ h => sameConfig_closed.step h⟩

end Sys2Proof.Machine

/-!
SUPPORT. What only a commit, only OPEN and only a frame's start write: the output (R258), StreamInfo (R145) and the split of
`SUB` between frames (R32, R306); and the machine after reset (R42).
-/

namespace Sys2Proof.Machine

/-! ### Output -/

/-- `OUT`, the two counters and the frame port are the same. -/
def SameOutput (s t : State) : Prop :=
  t.frameOut = s.frameOut ∧ t.out = s.out ∧ t.framesOk = s.framesOk ∧ t.samplesOut = s.samplesOut

theorem sameOutput_closed : StreamInfoClosed SameOutput where
  trans h h' := ⟨h'.1.trans h.1, h'.2.1.trans h.2.1, h'.2.2.1.trans h.2.2.1, h'.2.2.2.trans h.2.2.2⟩
  registers h := by
    have hd := h.data
    simp only [State.data, Prod.mk.injEq] at hd
    obtain ⟨-, -, -, -, hout, hframes, hsamples, hport⟩ := hd
    exact ⟨hport, hout, hframes, hsamples⟩
  writeSub _ _ := ⟨rfl, rfl, rfl, rfl⟩
  turn _ _ := ⟨rfl, rfl, rfl, rfl⟩
  streamInfo _ _ := ⟨rfl, rfl, rfl, rfl⟩

/-- The command has ended with the result FRAME. -/
def Committed (t : State) : Prop := t.lastResult = .frame ∧ t.seq.pos = .host

/-- An operation that ends the command before it commits, or commits. -/
def CommitsLast (m : M Unit) : Prop :=
  ∀ s, match m s with
    | .ok _ t => Committed t
    | .error .ended t => SameOutput s t
    | .error (.fault _) _ => True

theorem CommitsLast.bind {α : Type} {m : M α} {f : α → M Unit} (hm : Keeps SameOutput m) (hf : ∀ a, CommitsLast (f a)) :
    CommitsLast (m >>= f) := by
  intro s
  have hs := hm s
  rw [bind_run]
  cases hms : m s with
  | error e t =>
    rw [hms] at hs
    cases e
    · exact hs
    · trivial
  | ok a t =>
    rw [hms] at hs
    have ht := hf a t
    dsimp only
    cases hft : f a t with
    | ok b u =>
      rw [hft] at ht
      exact ht
    | error e u =>
      rw [hft] at ht
      cases e
      · exact sameOutput_closed.trans hs ht
      · trivial

/-- Nothing in an operation ends the command: it answers, or the model stops. -/
def NeverEnds {α : Type} (m : M α) : Prop := ∀ s t, m s ≠ .error .ended t

theorem NeverEnds.bind {α β : Type} {m : M α} {f : α → M β} (hm : NeverEnds m) (hf : ∀ a, NeverEnds (f a)) :
    NeverEnds (m >>= f) := by
  intro s t h
  obtain h | ⟨a, u, -, h⟩ := bind_eq_error.mp h
  · exact hm s t h
  · exact hf a u t h

theorem neverEnds_of_ok {α : Type} {m : M α} (h : ∀ s, ∃ a t, m s = .ok a t) : NeverEnds m := by
  intro s u hu
  obtain ⟨a, t, ht⟩ := h s
  rw [ht] at hu
  cases hu

theorem neverEnds_pure {α : Type} (a : α) : NeverEnds (pure a : M α) := neverEnds_of_ok fun _ => ⟨_, _, rfl⟩

theorem neverEnds_update (f : State → State) : NeverEnds (update f) := neverEnds_of_ok fun _ => ⟨_, _, rfl⟩

theorem neverEnds_ask {α : Type} (f : State → α) : NeverEnds (ask f) := neverEnds_of_ok fun _ => ⟨_, _, rfl⟩

theorem neverEnds_readSample (c i : Nat) : NeverEnds (readSample c i) := by
  intro s t h
  rw [readSample_run] at h
  split at h
  · split at h <;> cases h
  · cases h

theorem neverEnds_writeOut (c i : Nat) (v : Int) : NeverEnds (writeOut c i v) := by
  intro s t h
  rw [writeOut_run] at h
  split at h <;> cases h

theorem neverEnds_commitRow (c i n : Nat) : NeverEnds (commitRow c i n) := by
  induction n generalizing i with
  | zero => exact neverEnds_pure []
  | succ n ih =>
    exact (neverEnds_readSample _ _).bind fun _ => (neverEnds_writeOut _ _ _).bind fun _ => (ih _).bind fun _ =>
      neverEnds_pure _

theorem neverEnds_commitRows (n c k : Nat) : NeverEnds (commitRows n c k) := by
  induction k generalizing c with
  | zero => exact neverEnds_pure []
  | succ k ih => exact (neverEnds_commitRow _ _ _).bind fun _ => (ih _).bind fun _ => neverEnds_pure _

theorem neverEnds_commitFrame (crc : BitVec 16) : NeverEnds (commitFrame crc) :=
  (neverEnds_ask _).bind fun _ => (neverEnds_commitRows _ _ _).bind fun _ => (neverEnds_update _).bind fun _ =>
    neverEnds_update _

/-- A commit that answers is the end of the PULL with the result FRAME (R258). -/
theorem committed_of_commitFrame {crc : BitVec 16} {s t : State} (h : commitFrame crc s = .ok () t) : Committed t := by
  obtain ⟨fh, u, -, h⟩ := bind_eq_ok.mp h
  obtain ⟨samples, v, -, h⟩ := bind_eq_ok.mp h
  obtain ⟨-, w, -, h⟩ := bind_eq_ok.mp h
  cases h
  exact ⟨rfl, rfl⟩

theorem commitFrame_commitsLast (crc : BitVec 16) : CommitsLast (commitFrame crc) := by
  intro s
  split
  · exact committed_of_commitFrame ‹_›
  · exact absurd ‹_› (neverEnds_commitFrame crc s _)
  · trivial

theorem frameFooter_commitsLast (crc : BitVec 16) : CommitsLast (frameFooter crc) :=
  have h := sameOutput_closed
  .bind (h.update fun _ => ⟨rfl, id, id⟩) fun _ => .bind (h.skipBits _) fun _ => .bind (h.ask _) fun _ =>
    .bind (h.raiseIf _ _ _) fun _ => commitFrame_commitsLast crc

/-- An element leaves the output as it is, or commits the frame (R258, R306). -/
theorem element_output {p : Position} {m : M Unit} (he : Element p m) {s t : State} (h : outcome m s = .next t) :
    SameOutput s t ∨ Committed t := by
  by_cases hf : p = .footer
  · subst hf
    cases he with
    | footer crc =>
      have hc := frameFooter_commitsLast crc s
      obtain h | h := outcome_eq_next.mp h <;> rw [h] at hc
      · exact .inr hc
      · exact .inl hc
  · left
    cases hp : inOpen p
    · exact (sameOutput_closed.pullElement he hp hf).outcome h
    · exact (sameOutput_closed.openElement he hp).outcome h

/-- A command's run leaves the output as it is, or ends with a commit. -/
theorem runCommand_output {s t : State} (h : runCommand s = .next t) : SameOutput s t ∨ Committed t :=
  drain_next (P := fun u => SameOutput s u ∨ Committed u) (fun u v hu hpos hv => by
    obtain ⟨p, m, he, hm⟩ := element_of_elementStep hv
    obtain hu | ⟨-, hu⟩ := hu
    · obtain huv | hv := element_output he hm
      · exact .inl (sameOutput_closed.trans hu huv)
      · exact .inr hv
    · exact absurd hu hpos) (.inl (sameOutput_closed.refl s)) h

/-- An instruction other than RESET leaves the output as it is, or ends with a commit. -/
theorem exec_output {i : Instr} {s t : State} (h : exec i s = .next t) (hi : i ≠ .cmdReset) :
    SameOutput s t ∨ Committed t := by
  cases ran_of_exec h with
  | element he hm => exact element_output he hm
  | reset => exact absurd rfl hi
  | answered hp r ht => exact .inl (ht ▸ ⟨rfl, rfl, rfl, rfl⟩)
  | totalReached hs ht => exact .inl (ht ▸ ⟨rfl, rfl, rfl, rfl⟩)
  | opening hs ht =>
    refine (runCommand_output ht).imp_left (sameOutput_closed.trans ?_)
    unfold beginOpen
    split <;> exact ⟨rfl, rfl, rfl, rfl⟩
  | pulling hs ht => exact (runCommand_output ht).imp_left (sameOutput_closed.trans ⟨rfl, rfl, rfl, rfl⟩)

/-- Settles O8: only the commit writes the output, and it ends the command with the result FRAME. -/
theorem outputOnlyOnCommit : Obligations.OutputOnlyOnCommit := by
  intro i s t h hr
  by_cases hi : i = .cmdReset
  · subst hi
    obtain ⟨-, h⟩ := whenIdle_next h
    cases h
    exact ⟨rfl, fun h => absurd rfl h⟩
  · obtain ⟨hport, hout, hframes, hsamples⟩ | hc := exec_output h hi
    · exact ⟨hport, fun _ => ⟨hout, hframes, hsamples⟩⟩
    · exact absurd hc.1 hr

/-! ### StreamInfo -/

/-- Everything BLOCK_HEADER does (R142): the cursor moved and its registers written, or the command ended with some written. -/
theorem blockHeader_run (last : Bool) (type : BitVec 7) (len : BitVec 24) (s : State) :
    (∃ n, blockHeader last type len s =
      .ok () { s.skip n with md := { s.md with last := last, type := type, len := len } }) ∨
    ∃ n md t, blockHeader last type len s = .error .ended t ∧ Exit { s.skip n with md := md } t := by
  unfold blockHeader
  obtain ⟨_, n, h⟩ | ⟨n, t, h, ht⟩ := Reader.skipBits 1 s
  case inr => exact .inr ⟨n, (s.skip n).md, t, bind_error h, ht⟩
  rw [bind_ok h, bind_run, update_run]
  dsimp only
  obtain ⟨_, n', h'⟩ | ⟨n', t, h', ht⟩ := Reader.skipBits 7 { s.skip n with md := { (s.skip n).md with last := last } }
  case inr =>
    rw [skip_with_md, ← skip_add] at ht
    exact .inr ⟨_, _, t, bind_error h', ht⟩
  rw [bind_ok h', bind_run, update_run, skip_with_md, ← skip_add]
  dsimp only
  obtain ⟨_, n'', h''⟩ | ⟨n'', t, h'', ht⟩ := Reader.skipBits 24
    { s.skip (n + n') with md := { (s.skip n).md with last := last, type := type } }
  case inr =>
    rw [skip_with_md, ← skip_add] at ht
    exact .inr ⟨_, _, t, bind_error h'', ht⟩
  rw [bind_ok h'', update_run, skip_with_md, ← skip_add]
  exact .inl ⟨_, by rw [skip_md]⟩

/-- The registers of StreamInfo are the same. -/
theorem sameStreamInfo_closed : OpenClosed fun s t => t.si = s.si where
  trans h h' := h'.trans h
  registers h := congrArg (·.2.1) h.data
  writeSub _ _ := rfl
  turn _ _ := rfl

/-- A StreamInfo block that is no first block is refused before its body (R143). -/
theorem streamInfoBlock_refused {last : Bool} {len : BitVec 24} {s t : State} (hcount : s.md.count ≠ 0)
    (h : outcome (streamInfoBlock last len) s = .next t) : t.si = s.si := by
  obtain ⟨n, hb⟩ | ⟨n, md, u, hb, hu⟩ := blockHeader_run last 0 len s
  · have hrun : streamInfoBlock last len s = .error .ended
        (errorEntry .metadataFormat 3 0 { s.skip n with md := { s.md with last := last, type := 0, len := len } }) := by
      rw [streamInfoBlock, bind_ok hb, bind_error]
      simpa [firstBlockCheck, bind_run, raiseIf_run] using hcount
    rw [outcome_ended hrun] at h
    cases h
    simp
  · rw [streamInfoBlock, outcome_ended (bind_error hb)] at h
    cases h
    exact (sameStreamInfo_closed.exit hu).trans (skip_si n s)

/-- An element of OPEN after a counted block leaves StreamInfo as it is. -/
theorem metadata_streamInfo {m : M Unit} (he : Element .metadata m) {s t : State} (hcount : s.md.count ≠ 0)
    (h : outcome m s = .next t) : t.si = s.si := by
  cases he with
  | streamInfo last len => exact streamInfoBlock_refused hcount h
  | raw last type len => exact (sameStreamInfo_closed.rawBlock last type len).outcome h

/-- PULL's elements: StreamInfo is the same, and the sequencer does not enter OPEN. -/
def PullKeeps (s t : State) : Prop :=
  t.si = s.si ∧ (inOpen t.seq.pos = true → inOpen s.seq.pos = true) ∧ (s.bitsLeft ≤ 8 → t.bitsLeft ≤ 8)

theorem pullKeeps_closed : CommitClosed PullKeeps where
  trans h h' := ⟨h'.1.trans h.1, h.2.1 ∘ h'.2.1, h'.2.2 ∘ h.2.2⟩
  registers h := ⟨congrArg (·.2.1) h.data, h.position, h.bitsLeft⟩
  writeSub _ _ := ⟨rfl, id, id⟩
  writeOut _ _ := ⟨rfl, id, id⟩
  commit _ _ _ _ := ⟨rfl, id, id⟩

/-- A PULL's run leaves StreamInfo as it is (R275). -/
theorem pull_streamInfo {s t : State} (h : runCommand (beginPull s) = .next t) : t.si = s.si := by
  have hrun := drain_next (P := fun u => PullKeeps (beginPull s) u ∧ inOpen u.seq.pos = false ∧ u.bitsLeft ≤ 8)
    (fun u v hu hpos hv => by
      obtain ⟨hkeeps, hopen, hbits⟩ := hu
      obtain ⟨m, he, hm⟩ := elementStep_eq hbits hpos
      have huv := (pullKeeps_closed.pullElement he hopen).outcome (hm ▸ hv)
      exact ⟨pullKeeps_closed.trans hkeeps huv, Bool.eq_false_iff.mpr fun hv => Bool.eq_false_iff.mp hopen (huv.2.1 hv),
        huv.2.2 hbits⟩)
    ⟨pullKeeps_closed.refl _, rfl, Nat.zero_le 8⟩ h
  exact hrun.1.1

/-- An instruction between commands, StreamInfo there only in an open stream: StreamInfo is the same, or RESET has run. -/
theorem exec_streamInfo {i : Instr} {s t : State} (hi : i.position = .host) (hs : s.state ≠ .idle)
    (h : exec i s = .next t) : t.si = s.si ∨ t.state = .idle ∧ t.si = State.reset.si := by
  cases ran_of_exec h with
  | element he hm =>
    rw [hi] at he
    cases he
  | reset hp ht => exact .inr (ht ▸ ⟨rfl, rfl⟩)
  | answered hp r ht => exact .inl (ht ▸ rfl)
  | totalReached hs ht => exact .inl (ht ▸ rfl)
  | opening hidle ht => exact absurd hidle hs
  | pulling hs ht => exact .inl (pull_streamInfo ht)

/-- Settles O7: OPEN refuses a second StreamInfo block, no element of PULL writes StreamInfo, and of the commands RESET alone. -/
theorem streamInfoIsImmutable : Obligations.StreamInfoIsImmutable := by
  intro s t hinv hvalid h
  cases stepped_of_step h with
  | idle hp ht => exact .inl (ht ▸ rfl)
  | source hp answers rest ht => exact .inl (ht ▸ rfl)
  | command hp c rest ht =>
    have hs : s.state ≠ .idle := fun hidle => by
      obtain hv | hv := hvalid
      · obtain ⟨hpos, -⟩ := hinv.unopened hidle hv
        exact nomatch hp.symm.trans hpos
      · exact hv hidle
    exact exec_streamInfo (s := { s with host := rest }) (position_commandOf _) hs ht
  | element hp =>
    obtain ⟨m, he, hm⟩ := step_eq_outcome hinv.bitsLeft hp
    rw [hm] at h
    left
    cases hopen : inOpen s.seq.pos with
    | false => exact ((pullKeeps_closed.pullElement he hopen).outcome h).1
    | true =>
      have hidle := hinv.opening hopen
      obtain ⟨hmeta, hcount⟩ := hinv.unopened hidle (hvalid.resolve_right fun hv => hv hidle)
      rw [hmeta] at he
      exact metadata_streamInfo he hcount h

/-! ### `SUB` between frames -/

/-- Settles O21: the rows of earlier frames go under the new frame's empty ones, and its writes stand over them. -/
theorem frameBeginsUnwritten : Obligations.FrameBeginsUnwritten := by
  intro s hw
  refine ⟨fun c i hc hi => ?_, fun key => ?_, fun c i v t h => ?_⟩
  · rw [readSample_run]
    exact if_pos (sampleExists_iff.mpr ⟨hc, hi⟩)
  · exact read_over (memory_wf_iff.mp hw).1 s.subEarlier key
  · rw [writeSample_run] at h
    split at h
    · cases h
      refine ⟨rfl, ?_, fun key hk => ?_⟩
      · simp only [State.subEntry, read_write_same]
      · simp only [State.subEntry, read_write_other hk]
    · cases h

/-! ### After reset, and one step -/

/-- Settles O1: register by register; the 32 entries of `QLP` by evaluation. -/
theorem resetValues : Obligations.ResetValues := by
  refine ⟨rfl, rfl, rfl, rfl, rfl, rfl, rfl, rfl, rfl, rfl, rfl, rfl, rfl, rfl, ?_, rfl, fun _ => rfl, fun _ => rfl, rfl, rfl,
    rfl, rfl, rfl, rfl⟩
  decide

/-- Settles O12: the four things a step finds, by the cases of `fetchInstr`. -/
theorem stepRunsTheInstruction : Obligations.StepRunsTheInstruction := by
  refine fun s => ⟨fun hp i rest hd => step_element hp hd, step_idle, fun hp c rest => step_command hp,
    fun hp hs answers rest hh => ?_⟩
  rw [step_source hp hh, presentSource]
  obtain hs | hs := hs <;> simp only [hs]

end Sys2Proof.Machine

/-!
SUPPORT. What the invariant says inside a command, and how an operation runs from there: it answers with its claim, or it
ends the command in a state of the invariant; the model never stops.
-/

namespace Sys2Proof.Machine

/-- The invariant, but for the sample RAMs' canonical form, which every operation keeps on its own. -/
def Safe (t : State) : Prop := Memory.wf t = true → t.Inv

/-- From `s` the operation answers with Q, or ends the command in a safe state. -/
def Gives {α : Type} (Q : α → State → Prop) (m : M α) (s : State) : Prop :=
  (∃ a t, m s = .ok a t ∧ Q a t) ∨ ∃ e t, m s = .error e t ∧ e = .ended ∧ Safe t

/-- A command runs: the header's values, the order and the cursor are in range, and STATE is the one that accepts the command. -/
structure Running (s : State) : Prop where
  sizes : s.holdsEveryFrame
  bitsLeft : s.bitsLeft ≤ 8
  channels : s.fh.channels.toNat ≤ topChannels
  blockSize : s.fh.blockSize.toNat ≤ topBlock
  order : s.sf.order.toNat ≤ max s.cfg.maxFixedOrder.val s.cfg.maxLpcOrder.val
  assignment : s.fh.assign ≠ .independent → s.fh.channels = 2
  phase : inOpen s.seq.pos = true ∧ s.state = .idle ∨ inPull s.seq.pos = true ∧ s.state = .ready ∧ s.si.valid = true
  quiet : inOpen s.seq.pos = true → s.crc8En = false ∧ s.crc16En = false ∧ s.atPullStart = false

theorem inPull_eq_true {p : Position} : inPull p = true ↔ p ≠ .host ∧ inOpen p = false := by
  simp [inPull]

theorem State.Inv.running {s : State} (h : s.Inv) (hs : s.holdsEveryFrame) (hp : s.seq.pos ≠ .host) : Running s where
  sizes := hs
  bitsLeft := h.bitsLeft
  channels := h.channels
  blockSize := h.blockSize
  order := h.order
  assignment := h.assignment
  phase := by
    cases ho : inOpen s.seq.pos
    · have hready := h.pulling (inPull_eq_true.mpr ⟨hp, ho⟩)
      exact .inr ⟨inPull_eq_true.mpr ⟨hp, ho⟩, hready, h.valid (.inl hready)⟩
    · exact .inl ⟨rfl, h.opening ho⟩
  quiet ho := h.quiet (by simp [inPull, ho])

theorem Running.skip {s : State} (h : Running s) (n : Nat) : Running (s.skip n) where
  sizes := by simpa [State.holdsEveryFrame] using h.sizes
  bitsLeft := skip_bitsLeft_le h.bitsLeft n
  channels := by simpa using h.channels
  blockSize := by simpa using h.blockSize
  order := by simpa using h.order
  assignment := by simpa using h.assignment
  phase := by simpa using h.phase
  quiet ho := by
    simp only [skip_seq] at ho
    obtain ⟨h8, h16, hstart⟩ := h.quiet ho
    exact ⟨by simpa using h8, by simpa using h16, Bool.eq_false_iff.mpr fun ht =>
      Bool.eq_false_iff.mp hstart (atPullStart_of_skip ht)⟩

/-- Between commands, with the checksums off, what is left of the invariant is the registers' ranges and StreamInfo. -/
theorem safe_of_host {t : State} (hp : t.seq.pos = .host) (h8 : t.crc8En = false) (h16 : t.crc16En = false)
    (hstart : t.atPullStart = false) (bitsLeft : t.bitsLeft ≤ 8) (channels : t.fh.channels.toNat ≤ topChannels)
    (blockSize : t.fh.blockSize.toNat ≤ topBlock)
    (order : t.sf.order.toNat ≤ max t.cfg.maxFixedOrder.val t.cfg.maxLpcOrder.val)
    (assignment : t.fh.assign ≠ .independent → t.fh.channels = 2)
    (valid : t.state = .ready ∨ t.state = .ended → t.si.valid = true) (unopened : t.state ≠ .idle) : Safe t :=
  fun hw =>
    { memory := hw
      bitsLeft := bitsLeft
      channels := channels
      blockSize := blockSize
      order := order
      assignment := assignment
      opening := by simp [hp, inOpen]
      pulling := by simp [hp, inPull]
      quiet := fun _ => ⟨h8, h16, hstart⟩
      counted := by simp [hp]
      valid := valid
      unopened := fun hi => absurd hi unopened
      frame := by simp [State.frameInv, hp] }

/-- Every end of a command is safe (R306, R307, R308, R276). -/
theorem Running.exit {u t : State} (h : Running u) (ht : Exit u t) : Safe t := by
  have herror : ∀ k sub io, Safe (errorEntry k sub io u) := fun k sub io => by
    refine safe_of_host rfl rfl rfl rfl h.bitsLeft h.channels h.blockSize h.order h.assignment ?_ ?_
    all_goals obtain ⟨ho, -⟩ | ⟨hp, hready, hvalid⟩ := h.phase
    · simp [ho]
    · exact fun _ => hvalid
    · simp [ho]
    · simp [(inPull_eq_true.mp hp).2, hready]
  cases ht with
  | error k sub => exact herror k sub 0
  | ioError e rest => exact fun hw => { herror .ioError 0 e hw with }
  | sequenceEnd hstart =>
    obtain ⟨ho, -⟩ | ⟨-, -, hvalid⟩ := h.phase
    · obtain ⟨-, -, hoff⟩ := h.quiet ho
      exact absurd (hstart.symm.trans hoff) nofun
    · exact safe_of_host rfl rfl rfl rfl h.bitsLeft h.channels h.blockSize h.order h.assignment (fun _ => hvalid) nofun

namespace Gives

variable {α β : Type} {Q : β → State → Prop} {s : State}

theorem pure {Q : α → State → Prop} {a : α} (h : Q a s) : Gives Q (Pure.pure a) s := .inl ⟨a, s, rfl, h⟩

theorem done {Q : Unit → State → Prop} {f : State → State} (h : Q () (f s)) : Gives Q (Machine.update f) s :=
  .inl ⟨(), f s, rfl, h⟩

theorem ok {Q : α → State → Prop} {m : M α} {a : α} {t : State} (h : m s = .ok a t) (hq : Q a t) : Gives Q m s :=
  .inl ⟨a, t, h, hq⟩

theorem bind {P : α → State → Prop} {m : M α} {f : α → M β} (hm : Gives P m s) (hf : ∀ a t, P a t → Gives Q (f a) t) :
    Gives Q (m >>= f) s := by
  obtain ⟨a, t, h, hp⟩ | ⟨e, t, h, he⟩ := hm
  · obtain ⟨b, u, h', hq⟩ | ⟨e, u, h', he⟩ := hf a t hp
    · exact .inl ⟨b, u, by rw [bind_ok h, h'], hq⟩
    · exact .inr ⟨e, u, by rw [bind_ok h, h'], he⟩
  · exact .inr ⟨e, t, bind_error h, he⟩

theorem update {f : State → State} {m : Unit → M β} (h : Gives Q (m ()) (f s)) : Gives Q (Machine.update f >>= m) s := h

theorem ask {f : State → α} {m : α → M β} (h : Gives Q (m (f s)) s) : Gives Q (Machine.ask f >>= m) s := h

theorem mono {P : β → State → Prop} {m : M β} (hm : Gives P m s) (h : ∀ b t, P b t → Q b t) : Gives Q m s :=
  hm.imp_left fun ⟨b, t, hb, hp⟩ => ⟨b, t, hb, h b t hp⟩

/-- A reader answers after a move of the cursor, or ends the command safely. -/
theorem reads {m : M β} (hm : Reader m) (hs : Running s) (hq : ∀ b n, Q b (s.skip n)) : Gives Q m s := by
  obtain ⟨b, n, h⟩ | ⟨n, t, h, ht⟩ := hm s
  · exact .inl ⟨b, _, h, hq b n⟩
  · exact .inr ⟨_, t, h, rfl, (hs.skip n).exit ht⟩

/-- An error ends the command safely. -/
theorem raise (hs : Running s) (k : ErrorKind) (sub : Nat) : Gives Q (Machine.raise k sub) s :=
  .inr ⟨_, _, rfl, rfl, hs.exit (.error k sub)⟩

/-- A check passes, or ends the command safely. -/
theorem raiseIf {Q : Unit → State → Prop} {c : Bool} {k : ErrorKind} {sub : Nat} (hs : Running s)
    (hq : c = false → Q () s) : Gives Q (Machine.raiseIf c k sub) s := by
  cases c with
  | false => exact .inl ⟨(), s, rfl, hq rfl⟩
  | true => exact .raise hs k sub

/-- A check, then what follows where it passes. -/
theorem check {c : Bool} {k : ErrorKind} {sub : Nat} {m : M β} (hs : Running s) (next : c = false → Gives Q m s) :
    Gives Q (do Machine.raiseIf c k sub; m) s :=
  .bind (.raiseIf (Q := fun _ t => t = s ∧ c = false) hs fun hc => ⟨rfl, hc⟩) fun _ _ ⟨ht, hc⟩ => ht ▸ next hc

/-- A loop over indexes: P holds before each turn, and after the last one. -/
theorem forRange {P : Nat → State → Prop} {f : Nat → M Unit} {start n : Nat} (first : P start s)
    (turn : ∀ i t, start ≤ i → i < start + n → P i t → Gives (fun _ => P (i + 1)) (f i) t) :
    Gives (fun _ => P (start + n)) (Machine.forRange start n f) s :=
  (forRange_rule (E := fun e t => e = .ended ∧ Safe t) (fun i t h h' hp => (turn i t h h' hp).imp_left
    fun ⟨_, u, hu, hq⟩ => ⟨u, hu, hq⟩) first).imp_left fun ⟨u, hu, hq⟩ => ⟨(), u, hu, hq⟩

/-- The step of an operation that leaves a safe state. -/
theorem outcome {m : M Unit} (h : Gives (fun _ => Safe) m s) : ∃ t, outcome m s = .next t ∧ Safe t := by
  obtain ⟨_, t, h, ht⟩ | ⟨_, t, h, rfl, ht⟩ := h
  · exact ⟨t, outcome_ok h, ht⟩
  · exact ⟨t, outcome_ended h, ht⟩

end Gives

/-! ### OPEN -/

/-- Inside OPEN. -/
structure Opening (s : State) : Prop extends Running s where
  position : inOpen s.seq.pos = true

theorem Opening.idle {s : State} (h : Opening s) : s.state = .idle := by
  obtain ⟨-, hi⟩ | ⟨hp, -⟩ := h.phase
  · exact hi
  · exact absurd (h.position.symm.trans (inPull_eq_true.mp hp).2) nofun

theorem Opening.skip {s : State} (h : Opening s) (n : Nat) : Opening (s.skip n) where
  toRunning := h.toRunning.skip n
  position := by simpa using h.position

/-- At a metadata block: StreamInfo has been decoded where a block has been counted, and nowhere else. -/
theorem Opening.atMetadata {s : State} (h : Opening s) (hcount : s.md.count ≠ 0 → s.si.valid = true)
    (hvalid : s.si.valid = true → s.md.count ≠ 0) : Safe { s with seq.pos := .metadata } := fun hw =>
  { memory := hw
    bitsLeft := h.bitsLeft
    channels := h.channels
    blockSize := h.blockSize
    order := h.order
    assignment := h.assignment
    opening := fun _ => h.idle
    pulling := nofun
    quiet := fun _ => h.quiet h.position
    counted := fun _ => hcount
    valid := by simp [h.idle]
    unopened := fun _ hv => ⟨rfl, hvalid hv⟩
    frame := trivial }

/-- The end of OPEN (R156). -/
theorem Opening.opened {s : State} (h : Opening s) (hvalid : s.si.valid = true) : Safe (opened s) := by
  obtain ⟨h8, h16, hstart⟩ := h.quiet h.position
  exact safe_of_host rfl h8 h16 hstart h.bitsLeft h.channels h.blockSize h.order h.assignment (fun _ => hvalid) nofun

/-- A reader inside OPEN. -/
theorem Opening.read {α β : Type} {Q : β → State → Prop} {s : State} {m : M α} {f : α → M β} (h : Opening s)
    (hm : Reader m) (next : ∀ a t, Opening t → t.si = s.si → t.md = s.md → Gives Q (f a) t) : Gives Q (m >>= f) s :=
  .bind (.reads (Q := fun _ t => ∃ n, t = s.skip n) hm h.toRunning fun _ n => ⟨n, rfl⟩) fun a t ⟨n, ht⟩ => by
    subst ht
    exact next a _ (h.skip n) (skip_si n s) (skip_md n s)

theorem readMarker_gives {s : State} (h : Opening s) (hvalid : s.si.valid = false) (m : BitVec 32) :
    Gives (fun _ => Safe) (readMarker m) s := by
  refine h.read (.skipBits 32) fun _ t ht hsi _ => .check ht.toRunning fun _ => .update (.done ?_)
  exact Opening.atMetadata (s := { t with md.count := 0 }) { ht with } (fun hne => absurd rfl hne) (by simp [hsi, hvalid])

theorem endBlock_gives {s : State} (h : Opening s) (hvalid : s.si.valid = true) : Gives (fun _ => Safe) endBlock s := by
  have hc : Opening { s with md.count := countBlock s } := { h with }
  refine .update (.ask ?_)
  split
  · exact .done (hc.opened hvalid)
  · exact .done (hc.atMetadata (fun _ => hvalid) fun _ => countBlock_ne_zero s)

/-- FIRST_BLOCK_CHECK passes the first block where it is StreamInfo, and no later StreamInfo (R143). -/
theorem firstBlockCheck_gives {s : State} (h : Running s) :
    Gives (fun _ t => t = s ∧ (s.md.count = 0 ↔ s.md.type = 0)) firstBlockCheck s := by
  refine .ask (.check h fun hfirst => .raiseIf h fun hlater => ⟨rfl, ?_⟩)
  simp only [Bool.and_eq_false_iff, beq_eq_false_iff_ne, bne_eq_false_iff_eq] at hfirst hlater
  exact ⟨fun hc => hfirst.resolve_left (not_not.mpr hc), fun ht => hlater.resolve_right (not_not.mpr ht)⟩

/-- A block's header and FIRST_BLOCK_CHECK, and then the block (R142, R143). -/
theorem blockStart_gives {s : State} (h : Opening s) (last : Bool) (type : BitVec 7) (len : BitVec 24) {m : M Unit}
    (next : ∀ t, Opening t → t.si = s.si → (s.md.count = 0 ↔ type = 0) → Gives (fun _ => Safe) m t) :
    Gives (fun _ => Safe) (do blockHeader last type len; firstBlockCheck; m) s := by
  obtain ⟨n, hb⟩ | ⟨n, md, t, hb, ht⟩ := blockHeader_run last type len s
  · have hu : Opening { s.skip n with md := { s.md with last := last, type := type, len := len } } := { h.skip n with }
    refine .bind (.ok hb (Q := fun _ t => t = _) rfl) fun _ t ht => ?_
    subst ht
    refine .bind (firstBlockCheck_gives hu.toRunning) fun _ t ⟨ht, hfirst⟩ => ?_
    subst ht
    exact next _ hu (skip_si n s) hfirst
  · have hu : Running { s.skip n with md := md } := { h.skip n with }
    exact .inr ⟨_, t, bind_error hb, rfl, hu.exit ht⟩

theorem rawBlock_gives {s : State} (h : Opening s) (hcount : s.md.count ≠ 0 → s.si.valid = true) (last : Bool)
    {type : BitVec 7} (htype : type ≠ 0) (len : BitVec 24) : Gives (fun _ => Safe) (rawBlock last type len) s := by
  refine blockStart_gives h last type len fun t ht hsi hfirst => ?_
  have hvalid : t.si.valid = true := hsi ▸ hcount fun hc => htype (hfirst.mp hc)
  refine .bind (P := fun _ u => Opening u ∧ u.si.valid = true) ?_ fun _ u ⟨hu, hv⟩ => endBlock_gives hu hv
  exact ht.read (.readBytes _) fun _ u hu hsi _ => .ask (.done ⟨{ hu with }, hsi ▸ hvalid⟩)

theorem Opening.withStreamInfo {s : State} (h : Opening s) (si : StreamInfo) : Opening { s with si := si } :=
  { h with phase := .inl ⟨h.position, h.idle⟩ }

/-- A field of the body read, its register written. -/
theorem Opening.readField {s : State} (h : Opening s) {n : Nat} {f : Nat → State → State}
    (hf : ∀ v t, ∃ si, f v t = { t with si := si }) {Q : Unit → State → Prop} {m : M Unit}
    (next : ∀ t, Opening t → Gives Q m t) : Gives Q (do let v ← readU n; update (f v); m) s :=
  h.read (.readU n) fun v t ht _ _ => .update (next _ (by
    obtain ⟨si, hsi⟩ := hf v t
    exact hsi ▸ ht.withStreamInfo si))

theorem streamInfoFields_gives {s : State} (h : Opening s) :
    Gives (fun _ t => Opening t ∧ t.si.valid = true) streamInfoFields s := by
  unfold streamInfoFields
  iterate 8
    refine h.readField (fun _ _ => ⟨_, rfl⟩) ?_
    clear h
    intro s h
  refine h.read (.readU 64) fun _ s h _ _ => h.readField (fun _ _ => ⟨_, rfl⟩) fun s h => .done ⟨h.withStreamInfo _, rfl⟩

theorem streamInfoBlock_gives {s : State} (h : Opening s) (last : Bool) (len : BitVec 24) :
    Gives (fun _ => Safe) (streamInfoBlock last len) s := by
  refine blockStart_gives h last 0 len fun t ht _ _ => .check ht.toRunning fun _ => ?_
  refine .bind (streamInfoFields_gives ht) fun _ u ⟨hu, hv⟩ => .ask (.update ?_)
  exact endBlock_gives (s := { u with metadataOut := _ }) { hu with } hv

end Sys2Proof.Machine

/-!
SUPPORT. PULL's elements under the invariant: each finds the entries of `SUB` it reads written (R200), and leaves what its next
position asks for.
-/

namespace Sys2Proof.Machine

/-! ### Written entries -/

/-- A write takes no entry away. -/
theorem isSome_read_write {key : Nat} {ram : SampleRam} (h : (SampleRam.read key ram).isSome) (key' : Nat) (v : Int) :
    (SampleRam.read key (SampleRam.write key' v ram)).isSome := by
  by_cases hk : key = key'
  · subst hk
    simp [read_write_same]
  · rwa [read_write_other hk]

theorem written_zero (ram : SampleRam) (c : Nat) : ram.Written c 0 := fun _ h => absurd h (Nat.not_lt_zero _)

/-- A row is written one entry further. -/
theorem written_succ {ram : SampleRam} {c n : Nat} (h : ram.Written c n) (v : Int) :
    SampleRam.Written (SampleRam.write (sampleKey c n) v ram) c (n + 1) := by
  intro i hi
  obtain hi | rfl := Nat.lt_succ_iff_lt_or_eq.mp hi
  · exact isSome_read_write (h i hi) _ v
  · simp [read_write_same]

theorem rowsWritten_succ {s : State} {c : Nat} (h : s.rowsWritten c) (hc : s.sub.Written c s.fh.blockSize.toNat) :
    s.rowsWritten (c + 1) := by
  intro d hd
  obtain hd | rfl := Nat.lt_succ_iff_lt_or_eq.mp hd
  · exact h d hd
  · exact hc

/-! ### Inside PULL -/

/-- Inside PULL. -/
structure Pulling (s : State) : Prop extends Running s where
  position : inPull s.seq.pos = true

/-- A state of the same frame's run: the registers that say what is written are the same, and no entry of `SUB` is lost. -/
structure Within (s t : State) : Prop where
  pulling : Pulling t
  fh : t.fh = s.fh
  sf : t.sf = s.sf
  res : t.res = s.res
  written : ∀ key, (SampleRam.read key s.sub).isSome → (SampleRam.read key t.sub).isSome

namespace Pulling

variable {s : State} (h : Pulling s)

include h

theorem ready : s.state = .ready ∧ s.si.valid = true := by
  obtain ⟨ho, -⟩ | ⟨-, hready⟩ := h.phase
  · exact absurd (ho.symm.trans (inPull_eq_true.mp h.position).2) nofun
  · exact hready

theorem notOpen : inOpen s.seq.pos = false := (inPull_eq_true.mp h.position).2

/-- OPEN's claim about the checksums, inside PULL. -/
theorem quietOpen {P : Prop} (ho : inOpen s.seq.pos = true) : P := absurd (ho.symm.trans h.notOpen) nofun

theorem goto {p : Position} (hp : inPull p = true) : Pulling { s with seq.pos := p } where
  toRunning :=
    { h with
      phase := .inr ⟨hp, h.ready⟩
      quiet := fun ho => absurd (ho.symm.trans (inPull_eq_true.mp hp).2) nofun }
  position := hp

theorem skip (n : Nat) : Pulling (s.skip n) where
  toRunning := h.toRunning.skip n
  position := by simpa using h.position

/-- With what the current frame has left, the invariant. -/
theorem safe (hf : s.frameInv) : Safe s := fun hw =>
  { memory := hw
    bitsLeft := h.bitsLeft
    channels := h.channels
    blockSize := h.blockSize
    order := h.order
    assignment := h.assignment
    opening := h.quietOpen
    pulling := fun _ => h.ready.1
    quiet := fun hp => absurd (hp.symm.trans h.position) nofun
    counted := fun hp => h.quietOpen (by rw [hp]; rfl)
    valid := fun _ => h.ready.2
    unopened := fun hi => absurd (hi.symm.trans h.ready.1) nofun
    frame := hf }

theorem refl : Within s s := ⟨h, rfl, rfl, rfl, fun _ => id⟩

/-- An entry of a channel and a block exists in the sample RAM (R66). -/
theorem entryExists {c i : Nat} (hc : c < topChannels) (hi : i < topBlock) : sampleExists s.cfg c i = true :=
  sampleExists_iff.mpr ⟨by rw [h.sizes.1]; exact hc, by rw [h.sizes.2]; exact hi⟩

/-- A read of a written entry answers (R66, R200). -/
theorem readSample_ok {c i : Nat} (hc : c < topChannels) (hi : i < topBlock)
    (hw : (SampleRam.read (sampleKey c i) s.sub).isSome) : ∃ v, readSample c i s = .ok v s := by
  obtain ⟨v, hv⟩ := Option.isSome_iff_exists.mp hw
  exact ⟨v, by rw [readSample_run, if_pos (h.entryExists hc hi), hv]⟩

theorem writeSample_ok {c i : Nat} (hc : c < topChannels) (hi : i < topBlock) (v : Int) :
    writeSample c i v s = .ok () { s with sub := SampleRam.write (sampleKey c i) v s.sub } := by
  rw [writeSample_run, if_pos (h.entryExists hc hi)]

end Pulling

namespace Within

variable {s t u : State}

theorem trans (h : Within s t) (h' : Within t u) : Within s u where
  pulling := h'.pulling
  fh := h'.fh.trans h.fh
  sf := h'.sf.trans h.sf
  res := h'.res.trans h.res
  written key hk := h'.written key (h.written key hk)

theorem skip (h : Within s t) (n : Nat) : Within s (t.skip n) where
  pulling := h.pulling.skip n
  fh := by simpa using h.fh
  sf := by simpa using h.sf
  res := by simpa using h.res
  written := by simpa using h.written

theorem write (h : Within s t) (key : Nat) (v : Int) : Within s { t with sub := SampleRam.write key v t.sub } :=
  { h with
    pulling := { h.pulling with }
    written := fun key' hk => isSome_read_write (h.written key' hk) key v }

theorem row (h : Within s t) {c n : Nat} (hw : s.sub.Written c n) : t.sub.Written c n := fun i hi => h.written _ (hw i hi)

theorem rows (h : Within s t) {n : Nat} (hw : s.rowsWritten n) : t.rowsWritten n := fun c hc => by
  rw [h.fh]
  exact h.row (hw c hc)

theorem withLpc (h : Within s t) (lpc : Lpc) : Within s { t with lpc := lpc } :=
  { h with pulling := { h.pulling with } }

theorem inChannel (h : Within s t) (hc : s.inChannel) : t.inChannel := by
  obtain ⟨hlt, hrows⟩ := hc
  rw [State.inChannel, h.sf, h.fh]
  exact ⟨hlt, h.rows hrows⟩

end Within

theorem Pulling.channel_lt {s : State} (h : Pulling s) (hc : s.inChannel) : s.sf.ch.toNat < topChannels :=
  Nat.lt_of_lt_of_le hc.1 h.channels

namespace Gives

variable {α : Type} {s t : State}

/-- A reader inside PULL. -/
theorem readWithin {β : Type} {Q : β → State → Prop} {m : M α} {f : α → M β} (h : Within s t) (hm : Reader m)
    (next : ∀ a u, Within s u → u.sub = t.sub → Gives Q (f a) u) : Gives Q (m >>= f) t :=
  .bind (.reads (Q := fun _ u => ∃ n, u = t.skip n) hm h.pulling.toRunning fun _ n => ⟨n, rfl⟩) fun a u ⟨n, hu⟩ => by
    subst hu
    exact next a _ (h.skip n) (skip_sub n t)

/-- A read of a written entry, then what follows (R66). -/
theorem readSample {Q : α → State → Prop} {f : Int → M α} {c i : Nat} (h : Pulling s) (hc : c < topChannels)
    (hi : i < topBlock) (hw : (SampleRam.read (sampleKey c i) s.sub).isSome) (next : ∀ v, Gives Q (f v) s) :
    Gives Q (Machine.readSample c i >>= f) s := by
  obtain ⟨v, hv⟩ := h.readSample_ok hc hi hw
  exact .bind (.ok hv (Q := fun a t => a = v ∧ t = s) ⟨rfl, rfl⟩) fun a t ⟨_, ht⟩ => ht ▸ next a

/-- A write, then what follows (R66). -/
theorem writeSample {Q : α → State → Prop} {m : M α} {c i : Nat} {v : Int} (h : Pulling s) (hc : c < topChannels)
    (hi : i < topBlock) (next : Gives Q m { s with sub := SampleRam.write (sampleKey c i) v s.sub }) :
    Gives Q (do Machine.writeSample c i v; m) s :=
  .bind (.ok (h.writeSample_ok hc hi v) (Q := fun _ t => t = _) rfl) fun _ _ ht => ht ▸ next

/-- A write that ends an operation. -/
theorem lastWrite {c i : Nat} {v : Int} (h : Within s t) (hc : c < topChannels) (hi : i < topBlock) :
    Gives (fun _ => Within s) (Machine.writeSample c i v) t :=
  .ok (h.pulling.writeSample_ok hc hi v) (h.write _ _)

end Gives

/-! ### Channels (R250 to R255) -/

/-- A stereo assignment's loop: each turn reads the rows 0 and 1, and then only writes. -/
theorem stereoLoop_gives {s : State} (h : Pulling s) {n : Nat} (hn : n ≤ topBlock) (h0 : s.sub.Written 0 n)
    (h1 : s.sub.Written 1 n) {f : Nat → Int → Int → M Unit}
    (writes : ∀ i a b t, i < topBlock → Within s t → Gives (fun _ => Within s) (f i a b) t) :
    Gives (fun _ => Within s) (forRange 0 n fun i => do
      let a ← readSample 0 i
      let b ← readSample 1 i
      f i a b) s := by
  refine .forRange (P := fun _ => Within s) h.refl fun i t _ hi ht => ?_
  have hi' : i < topBlock := by omega
  refine .readSample ht.pulling (by decide) hi' (ht.written _ (h0 i (by omega))) fun a => ?_
  exact .readSample ht.pulling (by decide) hi' (ht.written _ (h1 i (by omega))) fun b => writes i a b t hi' ht

theorem reconstructChannels_gives {s : State} (h : Pulling s) (hw : s.rowsWritten s.fh.channels.toNat) :
    Gives (fun _ => Within s) (reconstructChannels s.fh.assign s.fh.blockSize.toNat) s := by
  cases ha : s.fh.assign with
  | independent => exact .pure h.refl
  | leftSide | rightSide =>
    rw [h.assignment (by simp [ha])] at hw
    exact stereoLoop_gives h h.blockSize (hw 0 (by decide)) (hw 1 (by decide)) fun i a b t hi ht =>
      .lastWrite ht (by decide) hi
  | middleSide =>
    rw [h.assignment (by simp [ha])] at hw
    exact stereoLoop_gives h h.blockSize (hw 0 (by decide)) (hw 1 (by decide)) fun i a b t hi ht =>
      .writeSample ht.pulling (by decide) hi (.lastWrite (ht.write _ _) (by decide) hi)

theorem checkOutputRange_gives {s : State} (h : Pulling s) {channels n : Nat} (hc : channels ≤ topChannels)
    (hn : n ≤ topBlock) (hw : ∀ c < channels, s.sub.Written c n) (w : Nat) :
    Gives (fun _ => Within s) (checkOutputRange channels n w) s := by
  refine .forRange (P := fun _ => Within s) h.refl fun c t _ hlt ht => ?_
  refine .forRange (P := fun _ => Within s) ht fun i u _ hi hu => ?_
  refine .readSample hu.pulling (by omega) (by omega) (hu.written _ (hw c (by omega) i (by omega))) fun v => ?_
  exact .raiseIf hu.pulling.toRunning fun _ => hu

/-- On to the padding: all rows are written. -/
theorem gotoPad_gives {s : State} (h : Pulling s) (hw : s.rowsWritten s.fh.channels.toNat) :
    Gives (fun _ => Safe) (goto .pad) s :=
  .done ((h.goto rfl).safe hw)

theorem finishChannels_gives {s : State} (h : Pulling s) (hw : s.rowsWritten s.fh.channels.toNat) :
    Gives (fun _ => Safe) finishChannels s := by
  refine .ask (.bind (reconstructChannels_gives h hw) fun _ t ht => .ask ?_)
  have hrows := ht.rows hw
  split
  · refine .bind (checkOutputRange_gives ht.pulling h.channels h.blockSize (fun c hc => ht.row (hw c hc)) _)
      fun _ u hu => gotoPad_gives hu.pulling ?_
    rw [hu.fh, ht.fh]
    exact hu.rows hrows
  · refine gotoPad_gives ht.pulling ?_
    rw [ht.fh]
    exact hrows

/-- The channel loop's turn (R200): the next subframe finds the rows before it written; after the last one all are. -/
theorem startChannel_gives {s : State} (h : Pulling s) {c : Nat} (hc : c ≤ s.fh.channels.toNat) (hw : s.rowsWritten c) :
    Gives (fun _ => Safe) (startChannel c) s := by
  obtain hlt | heq := Nat.lt_or_eq_of_le hc
  · refine .ok (startChannel_next hlt) (Pulling.safe { h.goto (p := .subframe) rfl with } ?_)
    have hch : (BitVec.ofNat 3 c).toNat = c := by
      have := h.channels
      simp only [topChannels] at this
      exact Nat.mod_eq_of_lt (by omega)
    change (BitVec.ofNat 3 c).toNat < s.fh.channels.toNat ∧ s.rowsWritten (BitVec.ofNat 3 c).toNat
    rw [hch]
    exact ⟨hlt, hw⟩
  · have hrun : Gives (fun _ => Safe) finishChannels s := finishChannels_gives h (heq ▸ hw)
    rwa [Gives, ← startChannel_end heq.ge] at hrun

/-! ### Runs of samples -/

/-- A run of values read into a row that is written up to it (R206, R207, R230). -/
theorem readSamples_gives {s : State} (h : Pulling s) {c start n : Nat} (hc : c < topChannels) (hn : start + n ≤ topBlock)
    {read : M Int} (hr : Reader read) (hw : s.sub.Written c start) :
    Gives (fun _ t => Within s t ∧ t.sub.Written c (start + n)) (readSamples c read start n) s := by
  refine (readSamples_rule (P := fun i t => Within s t ∧ t.sub.Written c i) (E := fun e t => e = .ended ∧ Safe t)
    (fun i t _ hi ht => ht.1.pulling.entryExists hc (by omega)) (fun i t _ hi ht => ?_) ⟨h.refl, hw⟩).imp_left
    fun ⟨u, hu, hq⟩ => ⟨(), u, hu, hq⟩
  obtain ⟨v, m, hv⟩ | ⟨m, u, hu, he⟩ := hr t
  · refine .inl ⟨v, _, hv, (ht.1.skip m).write _ v, ?_⟩
    rw [skip_sub]
    exact written_succ ht.2 v
  · exact .inr ⟨_, u, hu, rfl, (ht.1.pulling.toRunning.skip m).exit he⟩

/-- The prediction sum reads entries before i alone (R208 to R215). -/
theorem historySum_ok {s : State} (h : Pulling s) {c i : Nat} (hc : c < topChannels) (hi : i < topBlock)
    (hw : s.sub.Written c i) {coefs : List Int} (hp : coefs.length ≤ i) : ∃ v, historySum c coefs i s = .ok v s := by
  refine ⟨_, historySum_run (x := fun j => (SampleRam.read (sampleKey c j) s.sub).getD 0)
    (by rw [h.sizes.1]; exact hc) coefs i (by rw [h.sizes.2]; exact hi.le) hp fun j hj => ?_⟩
  obtain ⟨v, hv⟩ := Option.isSome_iff_exists.mp (hw (i - 1 - j) (by omega))
  rw [hv]
  rfl

theorem predictRow_gives {s : State} (h : Pulling s) {c n order : Nat} (hc : c < topChannels) (hn : n ≤ topBlock)
    (hw : s.sub.Written c n) {coefs : List Int} (hp : coefs.length ≤ order) (shift w : Nat) :
    Gives (fun _ => Within s) (predictRow c coefs shift w order n) s := by
  refine .forRange (P := fun _ => Within s) h.refl fun i t hge hi ht => ?_
  have hrow := ht.row hw
  obtain ⟨acc, hacc⟩ := historySum_ok ht.pulling hc (i := i) (by omega) (fun j hj => hrow j (by omega)) (hp.trans hge)
  refine .bind (.ok hacc (Q := fun _ u => u = t) rfl) fun _ u hu => ?_
  subst hu
  refine .readSample ht.pulling hc (by omega) (hrow i (by omega)) fun e => ?_
  exact .readWithin ht (.rangeCheckSample _ _) fun _ u hu _ => .lastWrite hu hc (by omega)

/-! ### Subframes (R200 to R218) -/

/-- The wasted-bits shift of a written row, and the next channel (R217, R200). -/
theorem finishSubframe_gives {s : State} (h : Pulling s) (hc : s.inChannel)
    (hw : s.sub.Written s.sf.ch.toNat s.fh.blockSize.toNat) : Gives (fun _ => Safe) finishSubframe s := by
  have hch := h.channel_lt hc
  have hn := h.blockSize
  refine .ask (.ask (.bind (P := fun _ => Within s) (.forRange (P := fun _ => Within s) h.refl fun i t _ hi ht => ?_)
    fun _ t ht => ?_))
  · refine .readSample ht.pulling hch (by omega) (ht.written _ (hw i (by omega))) fun v => ?_
    exact .lastWrite ht hch (by omega)
  · refine startChannel_gives ht.pulling ?_ (ht.rows (rowsWritten_succ hc.2 hw))
    rw [ht.fh]
    exact hc.1

/-- A type that selects a kind selects an order up to the configured ones, the type's own (R202). -/
theorem order_of_subframeKindOf {cfg : Config} {type order : Nat} {kind : SubframeKind}
    (h : subframeKindOf cfg type = some (kind, order)) :
    order ≤ max cfg.maxFixedOrder.val cfg.maxLpcOrder.val ∧ (type < 32 → 8 ≤ type → type = 8 + order) ∧
      (32 ≤ type → type = 31 + order) := by
  have := cfg.maxFixedOrder.isLt
  unfold subframeKindOf at h
  split_ifs at h <;> simp only [Option.some.injEq, Prod.mk.injEq] at h <;> obtain ⟨-, rfl⟩ := h <;> omega

/-- What a subframe's header leaves: the channel and `SUB` as they were, and an order that its type selects (R202). -/
structure HeaderRead (s : State) (type : Nat) (t : State) : Prop where
  pulling : Pulling t
  fh : t.fh = s.fh
  ch : t.sf.ch = s.sf.ch
  sub : t.sub = s.sub
  order : ∃ kind order, subframeKindOf t.cfg type = some (kind, order) ∧ t.sf.order = BitVec.ofNat 6 order

theorem HeaderRead.inChannel {s t : State} {type : Nat} (h : HeaderRead s type t) (hc : s.inChannel) : t.inChannel := by
  simp only [State.inChannel, State.rowsWritten, h.fh, h.ch, h.sub]
  exact hc

/-- The order as a number. -/
theorem HeaderRead.order_toNat {s t : State} {type : Nat} (h : HeaderRead s type t) :
    (8 ≤ type → type < 32 → type = 8 + t.sf.order.toNat) ∧ (32 ≤ type → type = 31 + t.sf.order.toNat) := by
  obtain ⟨kind, order, hk, ho⟩ := h.order
  obtain ⟨hmax, hfixed, hlpc⟩ := order_of_subframeKindOf hk
  have hf := t.cfg.maxFixedOrder.isLt
  have hl := t.cfg.maxLpcOrder.isLt
  have hn : t.sf.order.toNat = order := by
    rw [ho]
    exact Nat.mod_eq_of_lt (by omega)
  rw [hn]
  exact ⟨fun h h' => hfixed h' h, hlpc⟩

theorem HeaderRead.skip {s t : State} {type : Nat} (h : HeaderRead s type t) (n : Nat) : HeaderRead s type (t.skip n) where
  pulling := h.pulling.skip n
  fh := by simpa using h.fh
  ch := by simpa using h.ch
  sub := by simpa using h.sub
  order := by simpa using h.order

theorem subframeType_gives {s t : State} (h : Within s t) (hsub : t.sub = s.sub) (type : Nat) :
    Gives (fun _ => HeaderRead s type) (subframeType type) t := by
  obtain ⟨_, n, hskip⟩ | ⟨n, u, hskip, hu⟩ := Reader.skipBits 6 t
  · have hu := h.skip n
    have hrun := subframeType_run (type := type) hskip
    have hp : Pulling { t.skip n with sf.type := BitVec.ofNat 6 type } := { hu.pulling with }
    cases hk : subframeKindOf (t.skip n).cfg type with
    | some selected =>
      obtain ⟨kind, order⟩ := selected
      rw [hk] at hrun
      refine .ok hrun
        { pulling := { hp with order := (Nat.mod_le _ _).trans (order_of_subframeKindOf hk).1 }
          fh := hu.fh
          ch := (congrArg Subframe.ch hu.sf :)
          sub := (skip_sub n t).trans hsub
          order := ⟨kind, order, hk, rfl⟩ }
    | none =>
      rw [hk] at hrun
      exact .inr ⟨_, _, hrun, rfl, hp.toRunning.exit (.error _ _)⟩
  · exact .inr ⟨_, u, bind_error hskip, rfl, (h.pulling.toRunning.skip n).exit hu⟩

theorem subframeHeader_gives {s : State} (h : Pulling s) (type : Nat) (flag : Bool) :
    Gives (fun _ => HeaderRead s type) (subframeHeader type flag) s := by
  refine .readWithin h.refl (.skipBits 1) fun _ t ht hsub => ?_
  refine .bind (subframeType_gives ht hsub type) fun _ u hu => ?_
  refine .bind (.reads (Q := fun _ => HeaderRead s type) (.skipBits 1) hu.pulling.toRunning fun _ => hu.skip) fun _ u hu => ?_
  refine .bind (.reads (Q := fun _ => HeaderRead s type) (.wastedCount flag) hu.pulling.toRunning fun _ => hu.skip)
    fun k u hu => .update (.update (.ask ?_))
  have hw : HeaderRead s type { u with sf.wasted := BitVec.ofNat 6 k, sf.w := u.sf.fullW - BitVec.ofNat 6 k } :=
    { hu with pulling := { hu.pulling with } }
  exact .reads (.checkWidth _ _) hw.pulling.toRunning fun _ => hw.skip

/-- A reserved type is refused (R202). -/
theorem badSubframeType_gives {s : State} (h : Pulling s) {type : Nat}
    (htype : 2 ≤ type ∧ type < 8 ∨ 13 ≤ type ∧ type < 32) : Gives (fun _ => Safe) (badSubframeType type) s := by
  refine .readWithin h.refl (.skipBits 1) fun _ t ht hsub => (subframeType_gives ht hsub type).mono fun _ u hu => ?_
  obtain ⟨kind, order, hk, -⟩ := hu.order
  have hmax := u.cfg.maxFixedOrder.isLt
  rw [subframeKindOf_none (by omega) (by omega) (by omega)] at hk
  cases hk

theorem constantSubframe_gives {s : State} (h : Pulling s) (hc : s.inChannel) (flag : Bool) :
    Gives (fun _ => Safe) (constantSubframe flag) s := by
  refine .bind (subframeHeader_gives h 0 flag) fun _ t ht => .ask (.ask ?_)
  have hct := ht.inChannel hc
  have hch := ht.pulling.channel_lt hct
  have hn := ht.pulling.blockSize
  refine .readWithin ht.pulling.refl (.readS _) fun v u hu _ => ?_
  refine .bind (.forRange (P := fun i w => Within t w ∧ w.sub.Written t.sf.ch.toNat i) ⟨hu, written_zero _ _⟩
    fun i w _ hi hw => ?_) fun _ w ⟨hw, hrow⟩ => ?_
  · refine .ok (hw.1.pulling.writeSample_ok hch (by omega) v) ⟨hw.1.write _ v, written_succ hw.2 v⟩
  · refine finishSubframe_gives hw.pulling (hw.inChannel hct) ?_
    rw [hw.sf, hw.fh]
    simpa using hrow

theorem verbatimSubframe_gives {s : State} (h : Pulling s) (hc : s.inChannel) (flag : Bool) :
    Gives (fun _ => Safe) (verbatimSubframe flag) s := by
  refine .bind (subframeHeader_gives h 1 flag) fun _ t ht => .ask (.ask ?_)
  have hct := ht.inChannel hc
  have hn := ht.pulling.blockSize
  refine .bind (readSamples_gives ht.pulling (ht.pulling.channel_lt hct) (by omega) (.readS _) (written_zero _ _))
    fun _ u ⟨hu, hrow⟩ => finishSubframe_gives hu.pulling (hu.inChannel hct) ?_
  rw [hu.sf, hu.fh]
  simpa using hrow

/-- The warmup samples, after which the row is written up to the order (R207, R213). -/
theorem warmup_gives {s : State} (h : Pulling s) (hc : s.inChannel) {order : Nat} (ho : order ≤ 32) :
    Gives (fun _ t => Within s t ∧ t.sub.Written s.sf.ch.toNat order) (warmup order) s := by
  have hle : 0 + order ≤ topBlock := by simp only [topBlock]; omega
  have hrun := readSamples_gives h (h.channel_lt hc) hle (.readS s.sf.w.toNat) (written_zero _ _)
  rw [Nat.zero_add] at hrun
  exact .ask hrun

/-- On to the residual with the warmup samples written. -/
theorem gotoResidual_gives {s : State} (h : Pulling s) (hc : s.inChannel)
    (hw : s.sub.Written s.sf.ch.toNat s.sf.order.toNat) : Gives (fun _ => Safe) (goto .residual) s :=
  .done ((h.goto rfl).safe ⟨hc, hw⟩)

theorem fixedSubframe_gives {s : State} (h : Pulling s) (hc : s.inChannel) {order : Nat} (ho : order ≤ 4) (flag : Bool) :
    Gives (fun _ => Safe) (fixedSubframe order flag) s := by
  refine .bind (subframeHeader_gives h _ flag) fun _ t ht => ?_
  have hct := ht.inChannel hc
  have horder : t.sf.order.toNat = order := by have := ht.order_toNat.1 (by omega) (by omega); omega
  refine .bind (warmup_gives ht.pulling hct (by omega)) fun _ u ⟨hu, hw⟩ =>
    gotoResidual_gives hu.pulling (hu.inChannel hct) ?_
  rwa [hu.sf, horder]

theorem lpcHeader_gives {s t : State} (h : Within s t) : Gives (fun _ => Within s) lpcHeader t := by
  refine .readWithin h (.readU 4) fun pc u hu _ => .check hu.pulling.toRunning fun _ => .update ?_
  refine .readWithin (hu.withLpc _) (.checkWidth _ _) fun _ v hv _ => .readWithin hv (.readS 5) fun sh w hw _ =>
    .check hw.pulling.toRunning fun _ => .done (hw.withLpc _)

theorem lpcCoefs_gives {s t : State} (h : Within s t) (prec j n : Nat) : Gives (fun _ => Within s) (lpcCoefs prec j n) t := by
  induction n generalizing j t with
  | zero => exact .pure h
  | succ n ih =>
    exact .readWithin h (.readS prec) fun q u hu _ => .update (ih (hu.withLpc _) _)

theorem lpcSubframe_gives {s : State} (h : Pulling s) (hc : s.inChannel) {order : Nat} (ho : 1 ≤ order ∧ order ≤ 32)
    (flag : Bool) : Gives (fun _ => Safe) (lpcSubframe order flag) s := by
  refine .bind (subframeHeader_gives h _ flag) fun _ t ht => ?_
  have hct := ht.inChannel hc
  have horder : t.sf.order.toNat = order := by have := ht.order_toNat.2 (by omega); omega
  refine .bind (warmup_gives ht.pulling hct ho.2) fun _ u ⟨hu, hw⟩ => ?_
  refine .bind (lpcHeader_gives hu.pulling.refl) fun _ v hv => .ask ?_
  refine .bind (lpcCoefs_gives hv _ _ _) fun _ w huw => ?_
  have htw := hu.trans huw
  refine gotoResidual_gives htw.pulling (htw.inChannel hct) ?_
  rw [htw.sf, horder]
  exact huw.row hw

end Sys2Proof.Machine

/-!
SUPPORT. The residual's elements, the padding, the commit and the frame header under the invariant.
-/

namespace Sys2Proof.Machine

/-! ### Partitions (R230 to R235) -/

/-- Where partition j ends is where the next one starts. -/
theorem partStart_add_partSize {n p o : Nat} (hp : p ≤ n >>> o) (j : Nat) :
    partStart n p o j + partSize n p o j = (j + 1) * (n >>> o) := by
  unfold partStart partSize
  split
  · subst j
    omega
  · rw [Nat.succ_mul]

/-- The partitions end inside the block. -/
theorem partition_end_le {n o j : Nat} (hj : j < 2 ^ o) : (j + 1) * (n >>> o) ≤ n := by
  rw [Nat.shiftRight_eq_div_pow]
  exact (Nat.mul_le_mul_right _ hj).trans (Nat.mul_div_le n _)

/-- The last partition ends with the block (R232). -/
theorem last_partition_end {n o j : Nat} (hn : n % 2 ^ o = 0) (hj : j + 1 = 2 ^ o) : (j + 1) * (n >>> o) = n := by
  rw [hj, Nat.shiftRight_eq_div_pow]
  exact Nat.mul_div_cancel' (Nat.dvd_of_mod_eq_zero hn)

theorem Within.inPartition {s t : State} (h : Within s t) (hp : s.inPartition) : t.inPartition := by
  obtain ⟨hmod, horder, hpart, hrow⟩ := hp
  simp only [State.inPartition, h.fh, h.sf, h.res]
  exact ⟨hmod, horder, hpart, h.row hrow⟩

/-- On to a partition's parameter. -/
theorem gotoPartition_gives {s : State} (h : Pulling s) (hc : s.inChannel) (hp : s.inPartition) (method : Nat) :
    Gives (fun _ => Safe) (goto (partitionPosition method)) s := by
  unfold partitionPosition
  split <;> exact .done ((h.goto rfl).safe ⟨hc, hp⟩)

theorem partitionCheck_gives {s : State} (h : Pulling s) :
    Gives (fun _ t => t = s ∧ s.fh.blockSize.toNat % 2 ^ s.res.porder.toNat = 0 ∧
      s.sf.order.toNat ≤ s.fh.blockSize.toNat >>> s.res.porder.toNat) partitionCheck s := by
  refine .ask (.check h.toRunning fun hmod => .raiseIf h.toRunning fun horder => ⟨rfl, ?_, ?_⟩)
  · simpa using hmod
  · simpa using horder

theorem Within.withRes {s t : State} (h : Within s t) (res : Residual) : Within { s with res := res } { t with res := res } :=
  { h with pulling := { h.pulling with }, res := rfl }

theorem residualHeader_gives {s : State} (h : Pulling s) (hc : s.inChannel)
    (hw : s.sub.Written s.sf.ch.toNat s.sf.order.toNat) (method : Nat) (porder : BitVec 4) :
    Gives (fun _ => Safe) (residualHeader method porder) s := by
  refine .readWithin h.refl (.skipBits 2) fun _ t ht _ => .update ?_
  refine .readWithin (ht.withRes _) (.skipBits 4) fun _ u hu _ => .update ?_
  have hv := hu.withRes { u.res with porder := porder }
  refine .bind (partitionCheck_gives hv.pulling) fun _ v ⟨hvu, hmod, horder⟩ => .update ?_
  subst hvu
  have hw' := hv.withRes { u.res with porder := porder, part := 0 }
  refine gotoPartition_gives hw'.pulling (hw'.inChannel hc) ⟨hmod, horder, Nat.two_pow_pos _, ?_⟩ method
  change SampleRam.Written u.sub u.sf.ch.toNat u.sf.order.toNat
  rw [hu.sf]
  exact hu.row hw

theorem badCodingMethod_gives {s : State} (h : Pulling s) (method : Nat) :
    Gives (fun _ => Safe) (badCodingMethod method) s :=
  .readWithin h.refl (.skipBits 2) fun _ _ ht _ => .update (.raise (ht.withRes _).pulling.toRunning _ _)

/-- The coefficients are no more than the order (R208 to R214). -/
theorem predictorOf_length (sf : Subframe) (lpc : Lpc) : (predictorOf sf lpc).1.length ≤ sf.order.toNat := by
  unfold predictorOf
  split
  · unfold fixedCoefs
    split <;> simp_all
  · simp
  · simp
  · simp

theorem reconstructSubframe_gives {s : State} (h : Pulling s) (hc : s.inChannel)
    (hw : s.sub.Written s.sf.ch.toNat s.fh.blockSize.toNat) : Gives (fun _ => Safe) reconstructSubframe s := by
  refine .ask (.ask (.ask (.bind (predictRow_gives h (h.channel_lt hc) h.blockSize hw (predictorOf_length s.sf s.lpc) _ _)
    fun _ t ht => finishSubframe_gives ht.pulling (ht.inChannel hc) ?_)))
  rw [ht.sf, ht.fh]
  exact ht.row hw

/-- After a partition: the next one finds the row written up to it, and after the last one the row is whole (R230). -/
theorem nextPartition_gives {s : State} (h : Pulling s) (hc : s.inChannel) (hp : s.inPartition)
    (hw : s.sub.Written s.sf.ch.toNat ((s.res.part.toNat + 1) * (s.fh.blockSize.toNat >>> s.res.porder.toNat))) :
    Gives (fun _ => Safe) nextPartition s := by
  obtain ⟨hmod, horder, hpart, -⟩ := hp
  refine .ask ?_
  split
  case isTrue hlt =>
    have hn := h.refl.withRes { s.res with part := BitVec.ofNat 16 (s.res.part.toNat + 1) }
    refine .update (gotoPartition_gives hn.pulling (hn.inChannel hc) ?_ _)
    have hpartNext : (BitVec.ofNat 16 (s.res.part.toNat + 1)).toNat = s.res.part.toNat + 1 := by
      have hmax : 2 ^ s.res.porder.toNat ≤ 2 ^ 15 := Nat.pow_le_pow_right (by decide) (by omega)
      exact Nat.mod_eq_of_lt (by omega)
    rw [State.inPartition]
    dsimp only
    rw [hpartNext, partStart, if_neg (Nat.succ_ne_zero _)]
    exact ⟨hmod, horder, hlt, hw⟩
  case isFalse hge =>
    rw [last_partition_end hmod (by omega)] at hw
    exact reconstructSubframe_gives h hc hw

/-- A partition's values, then what follows the partition (R233). -/
theorem partition_gives {s : State} (h : Pulling s) (hc : s.inChannel) (hp : s.inPartition) {read : M Int}
    (hr : Reader read) : Gives (fun _ => Safe) (do partitionValues read; nextPartition) s := by
  have ⟨_, horder, hpart, hrow⟩ := hp
  have hend := partStart_add_partSize horder s.res.part.toNat
  have hle := (partition_end_le (n := s.fh.blockSize.toNat) hpart).trans h.blockSize
  refine .bind (.ask (readSamples_gives h (h.channel_lt hc) (hend.trans_le hle) hr hrow)) fun _ t ⟨ht, hw⟩ => ?_
  refine nextPartition_gives ht.pulling (ht.inChannel hc) (ht.inPartition hp) ?_
  rw [ht.res, ht.sf, ht.fh]
  exact hend ▸ hw

/-- The parameter's check, where it is not 0, and the partition. -/
theorem checkedPartition_gives {s : State} (h : Pulling s) (hc : s.inChannel) (hp : s.inPartition) {read : M Int}
    (hr : Reader read) (n sub : Nat) :
    Gives (fun _ => Safe)
      (if n ≥ 1 then do checkWidth n sub; partitionValues read; nextPartition
        else do partitionValues read; nextPartition) s := by
  split
  · exact .readWithin h.refl (.checkWidth n sub) fun _ t ht _ =>
      partition_gives ht.pulling (ht.inChannel hc) (ht.inPartition hp) hr
  · exact partition_gives h hc hp hr

theorem ricePartition_gives {s : State} (h : Pulling s) (hc : s.inChannel) (hp : s.inPartition) (width k : Nat) :
    Gives (fun _ => Safe) (ricePartition width k) s := by
  refine .readWithin h.refl (.skipBits width) fun _ t ht _ => .update ?_
  exact checkedPartition_gives (s := { t with res.param := BitVec.ofNat 5 k }) { ht.pulling with } (ht.inChannel hc)
    (ht.inPartition hp) (.readRice k) k 2

theorem escapedValues_gives {s : State} (h : Pulling s) (hc : s.inChannel) (hp : s.inPartition) (width : Nat) :
    Gives (fun _ => Safe) (escapedValues width) s := by
  refine .readWithin h.refl (.skipBits 5) fun _ t ht _ => .update ?_
  exact checkedPartition_gives (s := { t with res.escBits := BitVec.ofNat 5 width }) { ht.pulling with } (ht.inChannel hc)
    (ht.inPartition hp) (.readS width) width 1

theorem escapePartition_gives {s : State} (h : Pulling s) (hc : s.inChannel) (hp : s.inPartition) (width : Nat) :
    Gives (fun _ => Safe) (escapePartition width) s :=
  .readWithin h.refl (.skipBits width) fun _ t ht _ => .update (.done
    (((ht.withRes { t.res with param := BitVec.ofNat 5 (2 ^ width - 1) }).pulling.goto rfl).safe
      ⟨ht.inChannel hc, ht.inPartition hp⟩))

/-! ### After the last subframe (R256 to R258) -/

theorem framePadding_gives {s : State} (h : Pulling s) (hw : s.rowsWritten s.fh.channels.toNat) (bits : Bits) :
    Gives (fun _ => Safe) (framePadding bits) s := by
  refine .ask (.readWithin h.refl (.skipBits _) fun _ t ht _ => .ask (.check ht.pulling.toRunning fun _ => .done ?_))
  refine (ht.pulling.goto (p := .footer) rfl).safe ?_
  change t.rowsWritten t.fh.channels.toNat
  rw [ht.fh]
  exact ht.rows hw

theorem Within.withOut {s t : State} (h : Within s t) (out : SampleRam) : Within s { t with out := out } :=
  { h with pulling := { h.pulling with } }

theorem commitRow_gives {s t : State} (h : Within s t) {c i n : Nat} (hc : c < topChannels) (hn : i + n ≤ topBlock)
    (hw : s.sub.Written c (i + n)) : Gives (fun _ => Within s) (commitRow c i n) t := by
  induction n generalizing i t with
  | zero => exact .pure h
  | succ n ih =>
    refine .readSample h.pulling hc (by omega) (h.written _ (hw i (by omega))) fun v => ?_
    have hout : writeOut c i v t = .ok () { t with out := SampleRam.write (sampleKey c i) v t.out } := by
      rw [writeOut_run, if_pos (h.pulling.entryExists hc (by omega))]
    refine .bind (.ok (Q := fun _ => Within s) hout (h.withOut _)) fun _ u hu => ?_
    exact .bind (ih hu (by omega) (Nat.succ_add_eq_add_succ i n ▸ hw)) fun _ _ hv => .pure hv

theorem commitRows_gives {s t : State} (h : Within s t) {n c k : Nat} (hc : c + k ≤ topChannels) (hn : n ≤ topBlock)
    (hw : ∀ d < c + k, s.sub.Written d n) : Gives (fun _ => Within s) (commitRows n c k) t := by
  induction k generalizing c t with
  | zero => exact .pure h
  | succ k ih =>
    refine .bind (commitRow_gives h (by omega) (by omega) ((Nat.zero_add n).symm ▸ hw c (by omega))) fun _ u hu => ?_
    exact .bind (ih hu (by omega) fun d hd => hw d (by omega)) fun _ _ hv => .pure hv

/-- The commit is safe (R258). -/
theorem Pulling.committed {s : State} (h : Pulling s) : Safe (committed s) :=
  safe_of_host rfl rfl rfl rfl h.bitsLeft h.channels h.blockSize h.order h.assignment (fun _ => h.ready.2)
    fun hi => absurd (hi.symm.trans h.ready.1) nofun

theorem frameFooter_gives {s : State} (h : Pulling s) (hw : s.rowsWritten s.fh.channels.toNat) (crc : BitVec 16) :
    Gives (fun _ => Safe) (frameFooter crc) s := by
  have h : Within s { s with crc16En := false } :=
    { h.refl with pulling := { h with quiet := h.quietOpen } }
  refine .update (.readWithin h (.skipBits 16) fun _ t ht _ => .ask (.check ht.pulling.toRunning fun _ => .ask ?_))
  rw [ht.fh]
  refine .bind (commitRows_gives ht ((Nat.zero_add _).trans_le h.pulling.channels) h.pulling.blockSize fun d hd =>
    hw d ((Nat.zero_add _).subst hd)) fun rows u hu => .update (.done ?_)
  exact Pulling.committed (s := { u with frameOut := _ }) { hu.pulling with }

/-! ### Frame header (R170 to R186) -/

/-- The positions of a frame's header. -/
def headerFields : List Position :=
  [.sync, .bsCode, .srCode, .chCode, .bpsCode, .number, .numCont, .bs8, .bs16, .sr8, .sr16, .sr16x10, .crc8]

theorem inPull_of_headerField {p : Position} (hp : p ∈ headerFields) : inPull p = true := by
  fin_cases hp <;> rfl

/-- At a field of the header the invariant asks that no entry of `SUB` is written. -/
theorem frameInv_of_headerField {s : State} (hp : s.seq.pos ∈ headerFields) : s.frameInv ↔ s.sub = [] := by
  unfold State.frameInv
  generalize s.seq.pos = p at hp
  fin_cases hp <;> rfl

/-- Inside a frame's header: no entry of `SUB` is written. -/
structure InHeader (s : State) : Prop extends Pulling s where
  field : s.seq.pos ∈ headerFields
  fresh : s.sub = []

/-- A reader inside a frame's header. -/
theorem InHeader.read {α β : Type} {Q : β → State → Prop} {s : State} {m : M α} {f : α → M β} (h : InHeader s)
    (hm : Reader m) (next : ∀ a t, InHeader t → Gives Q (f a) t) : Gives Q (m >>= f) s :=
  .bind (.reads (Q := fun _ => InHeader) hm h.toRunning fun _ n =>
    { h.toPulling.skip n with field := by simpa using h.field, fresh := (skip_sub n s).trans h.fresh }) next

theorem InHeader.raise {s : State} (h : InHeader s) (k : ErrorKind) (sub : Nat) :
    Gives (fun _ => Safe) (raise k sub : M Unit) s :=
  .raise h.toRunning k sub

theorem InHeader.safe {s : State} (h : InHeader s) : Safe s := h.toPulling.safe ((frameInv_of_headerField h.field).mpr h.fresh)

/-- On to another field of the header. -/
theorem InHeader.goto {s : State} (h : InHeader s) (p : Position) (hp : p ∈ headerFields) :
    Gives (fun _ => Safe) (Machine.goto p) s :=
  .done (InHeader.safe { h.toPulling.goto (inPull_of_headerField hp) with field := hp, fresh := h.fresh })

theorem badSync_gives {s : State} (h : InHeader s) : Gives (fun _ => Safe) badSync s :=
  h.read (.skipBits 14) fun _ _ h => h.raise _ _

theorem badReservedA_gives {s : State} (h : InHeader s) : Gives (fun _ => Safe) badReservedA s :=
  h.read (.skipBits 14) fun _ _ h => h.read (.skipBits 1) fun _ _ h => h.raise _ _

theorem syncAndBlocking_gives {s : State} (h : InHeader s) (blocking : Bool) :
    Gives (fun _ => Safe) (syncAndBlocking blocking) s :=
  h.read (.skipBits 14) fun _ _ h => h.read (.skipBits 1) fun _ _ h => h.read (.skipBits 1) fun _ t h => .update
    (InHeader.goto (s := { t with fh.blocking := blocking }) { h with } _ (by decide))

theorem blockSizeCode_gives {s : State} (h : InHeader s) (k : Nat) : Gives (fun _ => Safe) (blockSizeCode k) s :=
  h.read (.skipBits 4) fun _ t h =>
    have hu : InHeader { t with fh.bsCode := BitVec.ofNat 4 k } := { h with }
    .update (.check hu.toRunning fun _ => hu.goto _ (by decide))

theorem sampleRateCode_gives {s : State} (h : InHeader s) (k : Nat) : Gives (fun _ => Safe) (sampleRateCode k) s :=
  h.read (.skipBits 4) fun _ t h =>
    have hu : InHeader { t with fh.srCode := BitVec.ofNat 4 k } := { h with }
    .update (.check hu.toRunning fun _ => hu.goto _ (by decide))

/-- A channel code has at most 8 channels, and two for a stereo assignment (R177). -/
theorem channelLayout_some {k n : Nat} {a : Assignment} (h : channelLayout k = some (a, n)) :
    n ≤ topChannels ∧ (a ≠ .independent → n = 2) := by
  unfold channelLayout at h
  split at h
  · cases h
    exact ⟨by simp only [topChannels]; omega, fun ha => absurd rfl ha⟩
  · split at h <;> cases h <;> exact ⟨by decide, fun _ => rfl⟩

theorem channelCode_gives {s : State} (h : InHeader s) (k : Nat) : Gives (fun _ => Safe) (channelCode k) s := by
  refine h.read (.skipBits 4) fun _ t h => ?_
  have hu : InHeader { t with fh.chCode := BitVec.ofNat 4 k } := { h with }
  refine .update ?_
  cases hk : channelLayout k with
  | none => exact hu.raise _ _
  | some layout =>
    obtain ⟨a, n⟩ := layout
    obtain ⟨hn, htwo⟩ := channelLayout_some hk
    refine .update (InHeader.goto (s := { t with fh := { t.fh with chCode := _, assign := a, channels := BitVec.ofNat 4 n } })
      { hu with channels := (Nat.mod_le _ _).trans hn, assignment := fun ha => ?_ } _ (by decide))
    rw [htwo ha]
    rfl

/-- BPS_CODE leaves the header's state, whatever the depth (R178). -/
theorem depthCode_gives {s : State} (h : InHeader s) (k : Nat) : Gives (fun _ => InHeader) (depthCode k) s := by
  refine h.read (.skipBits 3) fun _ t h => ?_
  have hu : InHeader { t with fh.bpsCode := BitVec.ofNat 3 k } := { h with }
  refine .update (.ask ?_)
  dsimp only
  cases sampleDepth k t.si.bps with
  | some d => exact .done { hu with }
  | none => exact .raise hu.toRunning _ _

theorem depthCodeAndReservedB_gives {s : State} (h : InHeader s) (k : Nat) :
    Gives (fun _ => Safe) (depthCodeAndReservedB k) s :=
  .bind (depthCode_gives h k) fun _ _ h => h.read (.skipBits 1) fun _ _ h => h.goto _ (by decide)

theorem badReservedB_gives {s : State} (h : InHeader s) (k : Nat) : Gives (fun _ => Safe) (badReservedB k) s :=
  .bind (depthCode_gives h k) fun _ _ h => h.read (.skipBits 1) fun _ _ h => h.raise _ _

theorem resolveRate_gives {s : State} (h : InHeader s) : Gives (fun _ => Safe) resolveRate s := by
  refine .ask (.ask ?_)
  split
  · exact h.goto _ (by decide)
  split
  · exact h.goto _ (by decide)
  split
  · exact h.goto _ (by decide)
  cases fixedRate s.fh.srCode.toNat s.si.rate with
  | some r => exact .update (InHeader.goto (s := { s with fh.rate := BitVec.ofNat 20 r }) { h with } _ (by decide))
  | none => exact h.raise _ _

/-- A fixed block size fits the sample RAM (R176). -/
theorem fixedBlockSize_le {code n : Nat} (h : fixedBlockSize code = some n) : n ≤ topBlock := by
  unfold fixedBlockSize at h
  split at h <;> cases h <;> decide

/-- A block size that fits the sample RAM, written. -/
theorem InHeader.withBlockSize {s : State} (h : InHeader s) {n : Nat} (hn : n ≤ topBlock) :
    InHeader { s with fh.blockSize := BitVec.ofNat 17 n } :=
  { h with blockSize := (Nat.mod_le _ _).trans hn }

theorem resolveBlockSize_gives {s : State} (h : InHeader s) : Gives (fun _ => Safe) resolveBlockSize s := by
  refine .ask ?_
  split
  · exact h.goto _ (by decide)
  split
  · exact h.goto _ (by decide)
  cases hn : fixedBlockSize s.fh.bsCode.toNat with
  | some n => exact .update (resolveRate_gives (h.withBlockSize (fixedBlockSize_le hn)))
  | none => exact h.raise _ _

theorem numberDone_gives {s : State} (h : InHeader s) (v : BitVec 36) : Gives (fun _ => Safe) (numberDone v) s :=
  .update (resolveBlockSize_gives { h with })

/-- The number being assembled is the sequencer's own (log entry 1). -/
theorem InHeader.withNumber {s : State} (h : InHeader s) (left : BitVec 3) (acc : BitVec 36) :
    InHeader { s with seq.numLeft := left, seq.numAcc := acc } :=
  { h with }

theorem numberLead_gives {s : State} (h : InHeader s) (len x : Nat) : Gives (fun _ => Safe) (numberLead len x) s := by
  refine h.read (.skipBits 8) fun _ t h => .ask (.check h.toRunning fun _ => ?_)
  split
  · exact numberDone_gives h _
  · exact .update ((h.withNumber _ _).goto _ (by decide))

theorem numberByte_gives {s : State} (h : InHeader s) (c : BitVec 8) : Gives (fun _ => Safe) (numberByte c) s := by
  refine h.read (.skipBits 8) fun _ t h => .check h.toRunning fun _ => .ask ?_
  dsimp only
  split
  · exact numberDone_gives h _
  · exact .done (h.withNumber _ _).safe

theorem badNumberLead_gives {s : State} (h : InHeader s) : Gives (fun _ => Safe) badNumberLead s :=
  h.read (.skipBits 8) fun _ _ h => h.raise _ _

theorem trailingBlockSize_gives {s : State} (h : InHeader s) (bits : Nat) {t : Nat} (ht : t < topBlock) :
    Gives (fun _ => Safe) (trailingBlockSize bits t) s :=
  h.read (.skipBits bits) fun _ _ h => .update (resolveRate_gives (h.withBlockSize ht))

theorem trailingRate_gives {s : State} (h : InHeader s) (bits t unit : Nat) :
    Gives (fun _ => Safe) (trailingRate bits t unit) s :=
  h.read (.skipBits bits) fun _ u h => .update
    (InHeader.goto (s := { u with fh.rate := BitVec.ofNat 20 (t * unit) }) { h with } _ (by decide))

theorem headerCrc_gives {s : State} (h : InHeader s) (crc : BitVec 8) : Gives (fun _ => Safe) (headerCrc crc) s := by
  have h : InHeader { s with crc8En := false } :=
    { h with quiet := h.quietOpen }
  refine .update (h.read (.skipBits 8) fun _ t h => .update (.ask ?_))
  have hu : InHeader { t with fh.crc8 := crc } := { h with }
  refine .check hu.toRunning fun _ => hu.read .blockSizeLimit fun _ u hu => ?_
  exact startChannel_gives hu.toPulling (Nat.zero_le _) fun c hc => absurd hc (Nat.not_lt_zero c)

end Sys2Proof.Machine

/-!
SUPPORT. The invariant of the machine: it holds after reset, every element and every command keeps it, and so does every step.
-/

namespace Sys2Proof.Machine

/-- Settles O3: each clause at the values of the reset state. -/
theorem invariantAtReset : Obligations.InvariantAtReset where
  memory := reset_wf
  bitsLeft := Nat.zero_le 8
  channels := Nat.zero_le _
  blockSize := Nat.zero_le _
  order := Nat.zero_le _
  assignment := fun h => absurd rfl h
  opening := nofun
  pulling := nofun
  quiet := fun _ => ⟨rfl, rfl, rfl⟩
  counted := nofun
  valid := by decide
  unopened := nofun
  frame := trivial

/-! ### Elements -/

theorem Element.position_ne_host {p : Position} {m : M Unit} (he : Element p m) : p ≠ .host := by
  cases he <;> decide

/-- Every element under the invariant leaves a safe state, or ends the command in one. -/
theorem element_gives {p : Position} {m : M Unit} (he : Element p m) {s : State} (h : s.Inv) (hs : s.holdsEveryFrame)
    (hp : s.seq.pos = p) : Gives (fun _ => Safe) m s := by
  have hrun : Running s := h.running hs (hp ▸ he.position_ne_host)
  have hopen (ho : inOpen p = true) : Opening s := ⟨hrun, hp ▸ ho⟩
  have hpull (hi : inPull p = true) : Pulling s := ⟨hrun, hp ▸ hi⟩
  have hheader (hf : p ∈ headerFields) : InHeader s :=
    ⟨hpull (inPull_of_headerField hf), hp ▸ hf, (frameInv_of_headerField (hp ▸ hf)).mp h.frame⟩
  have hframe := h.frame
  rw [State.frameInv, hp] at hframe
  cases he with
  | marker m =>
    refine readMarker_gives (hopen rfl) (Bool.eq_false_iff.mpr fun hv => ?_) m
    exact nomatch hp.symm.trans (h.unopened (hopen rfl).idle hv).1
  | streamInfo last len => exact streamInfoBlock_gives (hopen rfl) last len
  | raw last type len htype => exact rawBlock_gives (hopen rfl) (h.counted hp) last htype len
  | sync blocking => exact syncAndBlocking_gives (hheader (by decide)) blocking
  | badSync => exact badSync_gives (hheader (by decide))
  | badReservedA => exact badReservedA_gives (hheader (by decide))
  | bsCode k => exact blockSizeCode_gives (hheader (by decide)) k
  | srCode k => exact sampleRateCode_gives (hheader (by decide)) k
  | chCode k => exact channelCode_gives (hheader (by decide)) k
  | bpsCode k => exact depthCodeAndReservedB_gives (hheader (by decide)) k
  | badReservedB k => exact badReservedB_gives (hheader (by decide)) k
  | numberLead len x => exact numberLead_gives (hheader (by decide)) len x
  | badNumberLead => exact badNumberLead_gives (hheader (by decide))
  | numberByte c => exact numberByte_gives (hheader (by decide)) c
  | bs8 t => exact trailingBlockSize_gives (hheader (by decide)) 8 (t.isLt.trans (by decide))
  | bs16 t => exact trailingBlockSize_gives (hheader (by decide)) 16 t.isLt
  | sr8 t | sr16 t | sr16x10 t => exact trailingRate_gives (hheader (by decide)) _ t _
  | crc8 crc => exact headerCrc_gives (hheader (by decide)) crc
  | badSubframeReserved =>
    exact .readWithin (hpull rfl).refl (.skipBits 1) fun _ _ ht _ => .raise ht.pulling.toRunning _ _
  | badSubframeType type htype => exact badSubframeType_gives (hpull rfl) htype
  | constant wasted => exact constantSubframe_gives (hpull rfl) hframe wasted
  | verbatim wasted => exact verbatimSubframe_gives (hpull rfl) hframe wasted
  | fixed order wasted ho => exact fixedSubframe_gives (hpull rfl) hframe ho wasted
  | lpc order wasted ho => exact lpcSubframe_gives (hpull rfl) hframe ho wasted
  | residual method porder => exact residualHeader_gives (hpull rfl) hframe.1 hframe.2 method porder
  | badCodingMethod method => exact badCodingMethod_gives (hpull rfl) method
  | rice4 k | rice5 k => exact ricePartition_gives (hpull rfl) hframe.1 hframe.2 _ k
  | escape4 | escape5 => exact escapePartition_gives (hpull rfl) hframe.1 hframe.2 _
  | escaped width => exact escapedValues_gives (hpull rfl) hframe.1 hframe.2 width
  | pad bits => exact framePadding_gives (hpull rfl) hframe bits
  | footer crc => exact frameFooter_gives (hpull rfl) hframe crc

/-- The configuration is kept, and so is the size of the sample RAM. -/
theorem State.holdsEveryFrame.of_cfg {s t : State} (h : s.holdsEveryFrame) (hc : t.cfg = s.cfg) : t.holdsEveryFrame := by
  rw [State.holdsEveryFrame, hc]
  exact h

/-- Every element answers a next state, and keeps the invariant. -/
theorem element_keeps_inv {s : State} {m : M Unit} (he : Element s.seq.pos m) (h : s.Inv) (hs : s.holdsEveryFrame) :
    ∃ t, outcome m s = .next t ∧ t.Inv ∧ t.holdsEveryFrame := by
  obtain ⟨t, ht, hsafe⟩ := (element_gives he h hs rfl).outcome
  exact ⟨t, ht, hsafe ((keepsMemory_closed.element he).outcome ht h.memory),
    hs.of_cfg ((sameConfig_closed.element he).outcome ht)⟩

/-- Every run of elements answers a next state, and keeps the invariant (R339). -/
theorem drain_keeps_inv (n : Nat) {s : State} (h : s.Inv) (hs : s.holdsEveryFrame) : ∃ t, drain n s = .next t ∧ t.Inv := by
  induction n generalizing s with
  | zero => exact ⟨s, rfl, h⟩
  | succ n ih =>
    rw [drain]
    split
    · exact ⟨s, rfl, h⟩
    · obtain ⟨m, he, hm⟩ := elementStep_eq h.bitsLeft ‹_›
      obtain ⟨t, ht, hinv, hsize⟩ := element_keeps_inv he h hs
      rw [hm, ht]
      exact ih hinv hsize

/-! ### Commands -/

/-- Between commands a write of the result, the answers or the host's inputs leaves the invariant. -/
theorem State.Inv.withInputs {s : State} (h : s.Inv) (r : LastResult) (src : List SrcAnswer) (host : List HostInput) :
    State.Inv { s with lastResult := r, src := src, host := host } :=
  { h with }

theorem resetCore_inv (s : State) : (resetCore s).Inv := { invariantAtReset with order := Nat.zero_le _ }

/-- Between commands before a stream is open, StreamInfo has not been decoded. -/
theorem State.Inv.undecoded {s : State} (h : s.Inv) (hp : s.seq.pos = .host) (hi : s.state = .idle) :
    s.si.valid = false :=
  Bool.eq_false_iff.mpr fun hv => nomatch hp.symm.trans (h.unopened hi hv).1

theorem beginOpen_inv {s : State} (h : s.Inv) (hp : s.seq.pos = .host) (hi : s.state = .idle) : (beginOpen s).Inv := by
  have hv := h.undecoded hp hi
  have hq := h.quiet (by simp [hp, inPull])
  unfold beginOpen
  split
  · exact { h with
      opening := fun _ => hi
      pulling := nofun
      quiet := fun _ => hq
      counted := nofun
      unopened := fun _ hv' => absurd (hv.symm.trans hv') nofun
      frame := trivial }
  · exact { h with
      opening := fun _ => hi
      pulling := nofun
      quiet := fun _ => hq
      counted := fun _ hne => absurd rfl hne
      unopened := fun _ hv' => absurd (hv.symm.trans hv') nofun
      frame := trivial }

theorem beginPull_inv {s : State} (h : s.Inv) (hr : s.state = .ready) : (beginPull s).Inv :=
  { h with
    memory := newFrame_wf h.memory
    bitsLeft := Nat.zero_le 8
    opening := nofun
    pulling := fun _ => hr
    quiet := nofun
    counted := nofun
    unopened := fun hi => absurd (hi.symm.trans hr) nofun
    frame := rfl }

theorem ended_inv {s : State} (h : s.Inv) (hp : s.seq.pos = .host) (hr : s.state = .ready) :
    State.Inv { s with state := .ended, lastResult := .ended } :=
  { h with
    opening := by simp [hp, inOpen]
    pulling := by simp [hp, inPull]
    valid := fun _ => h.valid (.inl hr)
    unopened := nofun }

theorem openStream_keeps_inv {s : State} (h : s.Inv) (hs : s.holdsEveryFrame) (hp : s.seq.pos = .host) :
    ∃ t, openStream s = .next t ∧ t.Inv := by
  unfold openStream
  cases hi : s.state with
  | idle =>
    refine drain_keeps_inv _ (beginOpen_inv h hp hi) (hs.of_cfg ?_)
    unfold beginOpen
    split <;> rfl
  | ready | ended | failed => exact ⟨_, rfl, h.withInputs .rejected s.src s.host⟩

theorem pullFrame_keeps_inv {s : State} (h : s.Inv) (hs : s.holdsEveryFrame) (hp : s.seq.pos = .host) :
    ∃ t, pullFrame s = .next t ∧ t.Inv := by
  unfold pullFrame
  cases hr : s.state with
  | ready =>
    dsimp only
    split
    · exact ⟨_, rfl, ended_inv h hp hr⟩
    · exact drain_keeps_inv _ (beginPull_inv h hr) hs
  | ended => exact ⟨{ s with lastResult := .ended }, by simp only [hr], h.withInputs .ended s.src s.host⟩
  | idle | failed => exact ⟨_, rfl, h.withInputs .rejected s.src s.host⟩

/-- Every command issued between commands answers a next state, and keeps the invariant (R270 to R278). -/
theorem command_keeps_inv {i : Instr} (hi : i.position = .host) {s : State} (h : s.Inv) (hs : s.holdsEveryFrame)
    (hp : s.seq.pos = .host) : ∃ t, exec i s = .next t ∧ t.Inv := by
  have hidle (run : Host.Outcome State Fault Refusal) : whenIdle s run = run := if_pos hp
  cases i with
  | cmdReset => exact ⟨_, hidle _, resetCore_inv s⟩
  | cmdOpen =>
    obtain ⟨t, ht, hinv⟩ := openStream_keeps_inv h hs hp
    exact ⟨t, (hidle _).trans ht, hinv⟩
  | cmdPull =>
    obtain ⟨t, ht, hinv⟩ := pullFrame_keeps_inv h hs hp
    exact ⟨t, (hidle _).trans ht, hinv⟩
  | cmdReserved3 => exact ⟨_, hidle _, h.withInputs .rejected s.src s.host⟩
  | _ => cases hi

/-- Settles O5: the step's four cases, each answered in the invariant: no input, a move of the source inside the contract, a
command, and an element. -/
theorem stepAnswersAndKeepsInvariant : Obligations.StepAnswersAndKeepsInvariant := by
  intro s h hs hcontract
  by_cases hp : s.seq.pos = .host
  · match hh : s.host with
    | [] => exact ⟨s, step_idle hp hh, h⟩
    | .source answers :: rest =>
      rw [step_source hp hh, presentSource]
      obtain hi | hr := hcontract hp answers rest hh
      · exact ⟨{ s with src := answers, host := rest }, by simp only [hi], h.withInputs _ _ _⟩
      · exact ⟨{ s with src := answers, host := rest }, by simp only [hr], h.withInputs _ _ _⟩
    | .command c :: rest =>
      rw [step_command hp hh]
      exact command_keeps_inv (position_commandOf _) (h.withInputs s.lastResult s.src rest) hs hp
  · obtain ⟨m, he, hm⟩ := step_eq_outcome h.bitsLeft hp
    obtain ⟨t, ht, hinv, -⟩ := element_keeps_inv he h hs
    exact ⟨t, hm.trans ht, hinv⟩

end Sys2Proof.Machine

/-!
The sample RAM's accesses (R66, R70), and the bytes a move of the cursor takes (R121).
-/

namespace Sys2Proof.Machine

/-! ### The sample RAM -/

theorem index_lt_of_exists {cfg : Config} {c i : Nat} (h : sampleExists cfg c i = true) : i < topBlock :=
  Nat.lt_of_lt_of_le (sampleExists_iff.mp h).2 (Nat.le_of_lt_succ cfg.maxBlock.isLt)

/-- Entries that exist have the same address only where they are the same entry. -/
theorem sampleKey_ne_of_exists {cfg : Config} {c i c' i' : Nat} (h : sampleExists cfg c i = true)
    (h' : sampleExists cfg c' i' = true) (hne : (c', i') ≠ (c, i)) : sampleKey c' i' ≠ sampleKey c i := by
  intro hkey
  obtain ⟨rfl, rfl⟩ := sampleKey_inj (index_lt_of_exists h') (index_lt_of_exists h) hkey
  exact hne rfl

/-- Settles O20: a write of an entry that exists puts its value at the entry's own address; any other access is refused. -/
theorem sampleMemory : Obligations.SampleMemory := by
  intro c i v s
  refine ⟨fun hc hi => ?_, fun hnone => ?_⟩
  · have he : sampleExists s.cfg c i = true := sampleExists_iff.mpr ⟨hc, hi⟩
    refine ⟨{ s with sub := SampleRam.write (sampleKey c i) v s.sub }, ?_, rfl, ?_, fun c' i' hc' hi' hne => ?_⟩
    · rw [writeSample_run, if_pos he]
    · rw [readSample_run, if_pos he, read_write_same]
    · exact read_write_other (sampleKey_ne_of_exists he (sampleExists_iff.mpr ⟨hc', hi'⟩) hne) v s.sub
  · have he : ¬sampleExists s.cfg c i = true := fun h => hnone (sampleExists_iff.mp h)
    rw [writeSample_run, readSample_run, if_neg he, if_neg he]
    exact ⟨rfl, rfl⟩

/-! ### The bytes a move of the cursor takes -/

/-- From `s` to `t` the cursor has taken exactly these bytes of the source: they are gone from the answers to come, counted,
in each checksum that is enabled, and a PULL that took one is past its start (R26, R62, R121, R128). -/
structure TakesBytes (bytes : List Byte) (s t : State) : Prop where
  src : s.src = bytes.map .byte ++ t.src
  bytePos : t.bytePos = s.bytePos + BitVec.ofNat 64 bytes.length
  crc8En : t.crc8En = s.crc8En
  crc16En : t.crc16En = s.crc16En
  crc8 : t.crc8 = if s.crc8En then bytes.foldl crc8Step s.crc8 else s.crc8
  crc16 : t.crc16 = if s.crc16En then bytes.foldl crc16Step s.crc16 else s.crc16
  atPullStart : t.atPullStart = if bytes = [] then s.atPullStart else false

namespace TakesBytes

theorem refl (s : State) : TakesBytes [] s s where
  src := rfl
  bytePos := (BitVec.add_zero _).symm
  crc8En := rfl
  crc16En := rfl
  crc8 := (ite_self _).symm
  crc16 := (ite_self _).symm
  atPullStart := rfl

theorem trans {as bs : List Byte} {s t u : State} (h : TakesBytes as s t) (h' : TakesBytes bs t u) :
    TakesBytes (as ++ bs) s u where
  src := by rw [h.src, h'.src, List.map_append, List.append_assoc]
  bytePos := by rw [h'.bytePos, h.bytePos, List.length_append, BitVec.ofNat_add, BitVec.add_assoc]
  crc8En := h'.crc8En.trans h.crc8En
  crc16En := h'.crc16En.trans h.crc16En
  crc8 := by
    rw [h'.crc8, h.crc8En, h.crc8, List.foldl_append]
    cases s.crc8En <;> rfl
  crc16 := by
    rw [h'.crc16, h.crc16En, h.crc16, List.foldl_append]
    cases s.crc16En <;> rfl
  atPullStart := by
    rw [h'.atPullStart, h.atPullStart]
    cases as <;> simp

theorem fetched {b : Byte} {rest : List SrcAnswer} {s : State} (h : s.src = .byte b :: rest) :
    TakesBytes [b] s (fetched b rest s) where
  src := h
  bytePos := rfl
  crc8En := rfl
  crc16En := rfl
  crc8 := rfl
  crc16 := rfl
  atPullStart := rfl

/-- Taking a bit of `BUF` takes no byte. -/
theorem bitTaken {bytes : List Byte} {s t : State} (h : TakesBytes bytes s t) : TakesBytes bytes s t.bitTaken :=
  { h with }

end TakesBytes

/-- FETCH before a bit takes one byte, where `BITS_LEFT` is 0 and a byte comes, or none. -/
theorem loaded_takesBytes (s : State) : ∃ bytes, TakesBytes bytes s s.loaded := by
  unfold State.loaded
  split
  · split
    · exact ⟨_, .fetched ‹_›⟩
    · exact ⟨_, .refl s⟩
    · exact ⟨_, .refl s⟩
  · exact ⟨_, .refl s⟩

/-- A move of the cursor takes some bytes of the source, and nothing else of it. -/
theorem skip_takesBytes (n : Nat) (s : State) : ∃ bytes, TakesBytes bytes s (s.skip n) := by
  induction n generalizing s with
  | zero => exact ⟨_, .refl s⟩
  | succ n ih =>
    obtain ⟨first, hfirst⟩ := loaded_takesBytes s
    obtain ⟨later, hlater⟩ := ih s.loaded.bitTaken
    exact ⟨first ++ later, hfirst.bitTaken.trans hlater⟩

/-- Settles O19: the frame of a move of the cursor, and the bytes it takes. -/
theorem cursorFrame : Obligations.CursorFrame := by
  intro n s
  obtain ⟨taken, h⟩ := skip_takesBytes n s
  refine ⟨(skip_frame n s).symm, fun hoff => ?_, fun hoff => ?_, taken, h.src, h.bytePos, fun hon => ?_, fun hon => ?_,
    h.atPullStart⟩
  · simpa [hoff] using h.crc8
  · simpa [hoff] using h.crc16
  · simpa [hon] using h.crc8
  · simpa [hon] using h.crc16

end Sys2Proof.Machine

/-!
The bit reader: FETCH for each answer of the source (R121), the checksum updates on integers (R131, R132), and the fields the
reads answer (R123, R124, R125).
-/

namespace Sys2Proof.Machine

/-! ### FETCH -/

theorem fetch_byte {b : Byte} {rest : List SrcAnswer} {s : State} (h : s.src = .byte b :: rest) :
    fetch s = .ok () (fetched b rest s) := by
  simp only [fetch, h]

/-- FETCH without a byte to come ends the command (R133, R134). -/
theorem fetch_noByte {s : State} (h : ∀ b rest, s.src ≠ .byte b :: rest) : fetch s = .error .ended s.noByte := by
  unfold fetch State.noByte
  match hs : s.src with
  | [] => cases s.atPullStart <;> rfl
  | .ioErr e :: rest => rfl
  | .byte b :: rest => exact absurd hs (h b rest)

theorem noByte_eof {s : State} (h : s.src = []) :
    s.noByte = if s.atPullStart then endOfSequence s else errorEntry .unexpectedEof 0 0 s := by
  simp only [State.noByte, h]

theorem noByte_ioErr {e : BitVec 32} {rest : List SrcAnswer} {s : State} (h : s.src = .ioErr e :: rest) :
    s.noByte = errorEntry .ioError 0 e { s with src := rest } := by
  simp only [State.noByte, h]

/-- Settles O14: FETCH's one success, and the three ways the fetch that finds no byte ends the command. -/
theorem fetchAnswers : Obligations.FetchAnswers := by
  refine fun s => ⟨fun b rest h => fetch_byte h, fun h hstart => ?_, fun h hstart => ?_, fun e rest h => ?_⟩
  · rw [fetch_noByte (by simp [h]), noByte_eof h, if_pos hstart]
    rfl
  · rw [fetch_noByte (by simp [h]), noByte_eof h, if_neg (by simp [hstart])]
  · rw [fetch_noByte (by simp [h]), noByte_ioErr h]

/-! ### Checksums -/

/-- A round of a checksum update on words and on integers, for any width and polynomial. -/
theorem shiftXor_toNat {w : Nat} (poly c : BitVec (w + 1)) :
    (if c.msb then (c <<< 1) ^^^ poly else c <<< 1).toNat =
      if c.toNat.testBit w then (c.toNat * 2 ^^^ poly.toNat) % 2 ^ (w + 1) else c.toNat * 2 % 2 ^ (w + 1) := by
  have hmsb : c.msb = c.toNat.testBit w := rfl
  rw [hmsb, apply_ite BitVec.toNat, BitVec.toNat_xor, BitVec.toNat_shiftLeft, Nat.shiftLeft_eq, pow_one,
    Nat.xor_mod_two_pow, Nat.mod_eq_of_lt poly.isLt]

theorem crc8Round_semiconj :
    Function.Semiconj BitVec.toNat crc8Round
      (fun c => if c.testBit 7 then (c * 2 ^^^ 0x07) % 2 ^ 8 else c * 2 % 2 ^ 8) :=
  shiftXor_toNat crc8Poly

theorem crc16Round_semiconj :
    Function.Semiconj BitVec.toNat crc16Round
      (fun c => if c.testBit 15 then (c * 2 ^^^ 0x8005) % 2 ^ 16 else c * 2 % 2 ^ 16) :=
  shiftXor_toNat crc16Poly

theorem crc8Step_eq_iterate (c : BitVec 8) (b : Byte) : crc8Step c b = crc8Round^[8] (c ^^^ b) := rfl

theorem crc16Step_eq_iterate (c : BitVec 16) (b : Byte) :
    crc16Step c b = crc16Round^[8] (c ^^^ (b.setWidth 16 <<< 8)) := rfl

/-- A byte in the high half of a 16-bit word. -/
theorem setWidth_shiftLeft_toNat (b : Byte) : (b.setWidth 16 <<< 8).toNat = b.toNat * 2 ^ 8 := by
  have := b.isLt
  rw [BitVec.toNat_shiftLeft, BitVec.toNat_setWidth, Nat.shiftLeft_eq]
  omega

/-- Settles O15: `toNat` carries each round to the rule's computation, so it carries eight; the check values by evaluation. -/
theorem checksumSteps : Obligations.ChecksumSteps := by
  refine ⟨fun c b => ?_, fun c b => ?_, by decide +kernel, by decide +kernel⟩
  · rw [crc8Step_eq_iterate, (crc8Round_semiconj.iterate_right 8).eq, BitVec.toNat_xor]
  · rw [crc16Step_eq_iterate, (crc16Round_semiconj.iterate_right 8).eq, BitVec.toNat_xor, setWidth_shiftLeft_toNat]

/-! ### READ_U -/

/-- READ_U of a field that is ahead (R123). -/
theorem readU_ok {n v : Nat} {rest : Bits} {s : State} (hv : v < 2 ^ n) (h : s.stream = natToBits n v ++ rest) :
    readU n s = .ok v (s.skip n) ∧ (s.skip n).stream = rest := by
  have hread := readUFrom_ok 0 (natToBits_length n v) h
  rwa [bitsToNat_natToBits, Nat.zero_mul, Nat.zero_add, Nat.mod_eq_of_lt hv] at hread

/-- Bytes that come without a break are ahead in their order (R64). -/
theorem answerBits_bytes (bytes : List Byte) (rest : List SrcAnswer) :
    answerBits (bytes.map .byte ++ rest) = bytes.flatMap byteToBits ++ answerBits rest := by
  induction bytes with
  | nil => rfl
  | cons b bytes ih => rw [List.map_cons, List.cons_append, answerBits, ih, List.flatMap_cons, List.append_assoc]

theorem flatMap_byteToBits_length (bytes : List Byte) : (bytes.flatMap byteToBits).length = 8 * bytes.length := by
  induction bytes with
  | nil => rfl
  | cons b bytes ih =>
    rw [List.flatMap_cons, List.length_append, ih, byteToBits, natToBits_length, List.length_cons]
    omega

/-- The bits of bytes in stream order have the value of the bytes, the earlier byte in the high bits (R123). -/
theorem bitsToNat_bytes (acc : Nat) (bytes : List Byte) :
    bitsToNat acc (bytes.flatMap byteToBits) = bytes.foldl (fun v b => 256 * v + b.toNat) acc := by
  induction bytes generalizing acc with
  | nil => rfl
  | cons b bytes ih =>
    rw [List.flatMap_cons, bitsToNat_append, ih, byteToBits, bitsToNat_natToBits, Nat.mod_eq_of_lt b.isLt, Nat.mul_comm]
    rfl

/-- From an aligned cursor the move over the next byte fetches it and uses all its bits. -/
theorem skip_byte {b : Byte} {rest : List SrcAnswer} {s : State} (h0 : s.bitsLeft = 0) (h : s.src = .byte b :: rest) :
    s.skip 8 = alignDiscard (fetched b rest s) := by
  have hl : s.loaded = fetched b rest s := by simp [State.loaded, h0, h]
  rw [State.skip, hl]
  rfl

/-- From an aligned cursor the move over bytes takes exactly them. -/
theorem skip_bytes {bytes : List Byte} {rest : List SrcAnswer} {s : State} (h0 : s.bitsLeft = 0)
    (h : s.src = bytes.map .byte ++ rest) : TakesBytes bytes s (s.skip (8 * bytes.length)) := by
  induction bytes generalizing s with
  | nil => exact .refl s
  | cons b bytes ih =>
    have hfirst : TakesBytes [b] s (alignDiscard (fetched b (bytes.map .byte ++ rest) s)) := { TakesBytes.fetched h with }
    rw [List.length_cons, Nat.mul_succ, Nat.add_comm, skip_add, skip_byte h0 h]
    exact hfirst.trans (ih rfl rfl)

/-- Settles O16: the value of a field, the bytes of an aligned field, and the read past the last bit. -/
theorem readUnsignedField : Obligations.ReadUnsignedField := by
  refine ⟨fun n v rest s hv h => readU_ok hv h, fun bytes rest s h0 h => ?_, fun n s h => ?_⟩
  · have hstream : s.stream = bytes.flatMap byteToBits ++ answerBits rest := by
      rw [State.stream, h0, h, answerBits_bytes]
      rfl
    obtain ⟨hread, -⟩ := readUFrom_ok 0 (flatMap_byteToBits_length bytes) hstream
    have htaken := skip_bytes h0 h
    refine ⟨by rwa [bitsToNat_bytes] at hread, htaken.bytePos, ?_⟩
    exact (List.append_cancel_left (h.symm.trans htaken.src)).symm
  · rw [readU, readUFrom_short 0 h]
    simp only [State.noByte]
    rcases (s.skip s.stream.length).src with _ | ⟨_ | _, _⟩ <;> rfl

/-! ### READ_S -/

theorem sext_toNat {n : Nat} (x : BitVec n) : sext n x.toNat = x.toInt := by
  cases n with
  | zero => rw [BitVec.eq_nil x]; rfl
  | succ n =>
    have hmsb : x.msb = x.toNat.testBit n := rfl
    rw [sext, if_neg (Nat.succ_ne_zero n), BitVec.toInt_eq_msb_cond, hmsb]
    rfl

theorem readS_run (n : Nat) (s : State) :
    readS n s = match readU n s with
      | .ok v t => .ok (sext n v) t
      | .error e t => .error e t := by
  rw [readS, bind_run]
  cases readU n s <;> rfl

/-- READ_S of a field that is ahead (R124). -/
theorem readS_ok {n : Nat} {x : BitVec n} {rest : Bits} {s : State} (h : s.stream = natToBits n x.toNat ++ rest) :
    readS n s = .ok x.toInt (s.skip n) ∧ (s.skip n).stream = rest := by
  obtain ⟨hread, hrest⟩ := readU_ok x.isLt h
  exact ⟨by rw [readS_run, hread, ← sext_toNat], hrest⟩

/-- The pattern of a value that fits reads back as the value. -/
theorem toInt_ofInt_of_fits {n : Nat} {v : Int} (h : fits n v = true) : (BitVec.ofInt n v).toInt = v := by
  cases n with
  | zero =>
    obtain rfl : v = 0 := by simpa [fits] using h
    rfl
  | succ n =>
    simp only [fits, if_neg (Nat.succ_ne_zero n), Nat.add_sub_cancel, decide_eq_true_eq] at h
    rw [BitVec.toInt_ofInt]
    exact Int.bmod_eq_of_le (by push_cast; omega) (by push_cast; omega)

/-- Settles O17: by READ_U, and the sign of the field's pattern. -/
theorem readSignedField : Obligations.ReadSignedField := by
  refine ⟨readS_run, fun n v rest s hv h => ?_⟩
  have hread := readS_ok h
  rwa [toInt_ofInt_of_fits hv] at hread

/-! ### READ_UNARY -/

section Unary

variable {k : ErrorKind} {sub q left : Nat} {rest : Bits} {s : State}

theorem unaryFrom_one (h : s.stream = true :: rest) : unaryFrom q k sub left s = .ok q (s.skip 1) := by
  cases left <;> rw [unaryFrom, bind_ok (readBit_ok h).1] <;> rfl

theorem unaryFrom_zero (h : s.stream = false :: rest) :
    unaryFrom q k sub (left + 1) s = unaryFrom (q + 1) k sub left (s.skip 1) := by
  rw [unaryFrom, bind_ok (readBit_ok h).1]
  rfl

/-- The first zero past the limit (R125). -/
theorem unaryFrom_limit (h : s.stream = false :: rest) :
    unaryFrom q k sub 0 s = .error .ended (errorEntry k sub 0 (s.skip 1)) := by
  rw [unaryFrom, bind_ok (readBit_ok h).1]
  rfl

theorem unaryFrom_none (h : s.stream = []) : unaryFrom q k sub left s = .error .ended s.noByte := by
  cases left <;> rw [unaryFrom, bind_error (readBit_none h)]

/-- Zeros within the limit are counted. -/
theorem unaryFrom_zeros {m : Nat} (hm : m ≤ left) (h : s.stream = List.replicate m false ++ rest) :
    unaryFrom q k sub left s = unaryFrom (q + m) k sub (left - m) (s.skip m) ∧ (s.skip m).stream = rest := by
  induction m generalizing q left s with
  | zero => exact ⟨rfl, h⟩
  | succ m ih =>
    obtain ⟨left, rfl⟩ := Nat.exists_eq_add_of_le' (Nat.le_trans (Nat.le_add_left 1 m) hm)
    obtain ⟨hcount, hrest⟩ := ih (q := q + 1) (Nat.le_of_succ_le_succ hm) (readBit_ok h).2
    rw [unaryFrom_zero h, hcount, Nat.add_comm m 1, skip_add, Nat.add_assoc, Nat.add_comm left 1, Nat.add_sub_add_left]
    exact ⟨rfl, hrest⟩

end Unary

/-- Settles O18: the zeros within the limit, then the one, the zero past the limit, or the end of the data. -/
theorem readUnaryCounts : Obligations.ReadUnaryCounts := by
  refine fun limit k sub rest s => ⟨fun q hq h => ?_, fun h => ?_, fun m hm h => ?_⟩
  · rw [unaryBits, List.append_assoc] at h
    obtain ⟨hcount, hone⟩ := unaryFrom_zeros (q := 0) (k := k) (sub := sub) (left := limit.toNat) (by omega) h
    rw [readUnary, hcount, unaryFrom_one hone, Nat.zero_add, skip_add]
    exact ⟨rfl, (readBit_ok hone).2⟩
  · rw [List.replicate_succ', List.append_assoc] at h
    obtain ⟨hcount, hzero⟩ := unaryFrom_zeros (q := 0) (k := k) (sub := sub) le_rfl h
    rw [readUnary, hcount, Nat.sub_self, unaryFrom_limit hzero, skip_add]
  · obtain ⟨hcount, hnone⟩ := unaryFrom_zeros (q := 0) (k := k) (sub := sub) (rest := []) hm (by simpa using h)
    rw [readUnary, hcount, unaryFrom_none hnone]

end Sys2Proof.Machine

/-!
Fields refused or cut short where they are read: the elements of one field (R133, R305), the LPC header (R213) and the widths
of a partition (R234, R235).
-/

namespace Sys2Proof.Machine

/-! ### Elements of one field -/

/-- The width of the one field a position's rows encode, where it is read before any register is written; none at the other positions. -/
def fieldBits : Position → Option Nat
  | .marker => some 32
  | .bsCode | .srCode | .chCode | .part4 => some 4
  | .part5 | .esc => some 5
  | .number | .numCont | .bs8 | .sr8 => some 8
  | .bs16 | .sr16 | .sr16x10 => some 16
  | .host | .metadata | .sync | .bpsCode | .crc8 | .subframe | .residual | .pad | .footer => none

theorem encode_length_of_fieldBits {i : Instr} {n : Nat} (h : fieldBits i.position = some n) : i.encode.length = n := by
  cases i <;> cases h <;> exact natToBits_length _ _

/-- An element of one field whose data ends in the field reads nothing else and writes nothing (R133, R305). -/
theorem element_truncated {p : Position} {m : M Unit} {n : Nat} {s : State} (he : Element p m) (hn : fieldBits p = some n)
    (h : s.stream.length < n) : m s = .error .ended (s.skip s.stream.length).noByte := by
  cases he <;> cases hn <;> exact bind_error (skipBits_short h)

/-- Settles O23: the element's operation begins with its field, and the field is what its row encodes. -/
theorem truncatedElement : Obligations.TruncatedElement := by
  intro i s hp hshort
  have hsome : (fieldBits i.position).isSome = true := by
    revert hp
    cases i.position <;> decide
  obtain ⟨n, hn⟩ := Option.isSome_iff_exists.mp hsome
  have hhost : i.position ≠ .host := fun h => by simp [h, fieldBits] at hn
  obtain ⟨m, he, hrun⟩ := element_of_runElement i hhost
  rw [encode_length_of_fieldBits hn] at hshort
  rw [exec_eq_runElement i hhost, hrun, outcome_ended (element_truncated he hn hshort)]

/-! ### The LPC header -/

theorem checkWidth_refuses {n : Nat} {s : State} (sub : Nat) (h : s.cfg.maxReadWidth < n) :
    checkWidth n sub s = .error .ended (errorEntry .widthOutOfRange sub 0 s) := by
  rw [checkWidth_run, if_neg (by omega)]

/-- `LPC_PREC` written from a precision code (R213). -/
def State.withPrecision (s : State) (code : Nat) : State := { s with lpc.prec := BitVec.ofNat 5 (code + 1) }

theorem skip_withPrecision (n code : Nat) (s : State) : (s.withPrecision code).skip n = (s.skip n).withPrecision code := by
  unfold State.withPrecision
  rw [skip_with_lpc, skip_lpc]

/-- Everything the LPC header does once its precision code is read (R213). -/
theorem lpcHeader_run {code : Nat} {s t : State} (h : readU 4 s = .ok code t) :
    lpcHeader s =
      if code = 15 then .error .ended (errorEntry .invalidLpcPrecision 0 0 t)
      else if t.cfg.maxReadWidth < code + 1 then .error .ended (errorEntry .widthOutOfRange 3 0 (t.withPrecision code))
      else match readS 5 (t.withPrecision code) with
        | .ok sh v =>
          if sh < 0 then .error .ended (errorEntry .invalidLpcShift 0 0 v)
          else .ok () { v with lpc.shift := BitVec.ofInt 5 sh }
        | .error e v => .error e v := by
  have hwrite : update (fun s => { s with lpc.prec := BitVec.ofNat 5 (code + 1) }) t = .ok () (t.withPrecision code) := rfl
  rw [lpcHeader, bind_ok h]
  by_cases h15 : code = 15
  · subst h15
    exact bind_error rfl
  · have hcode : raiseIf (code == 15) .invalidLpcPrecision 0 t = .ok () t := by
      rw [raiseIf_run, if_neg (by simpa using h15)]
    rw [if_neg h15, bind_ok hcode, bind_ok hwrite]
    by_cases hw : t.cfg.maxReadWidth < code + 1
    · rw [if_pos hw]
      exact bind_error (checkWidth_refuses 3 hw)
    · have hwidth : checkWidth (code + 1) 3 (t.withPrecision code) = .ok () (t.withPrecision code) := by
        rw [checkWidth_run, if_pos ⟨Nat.le_add_left 1 code, Nat.not_lt.mp hw⟩]
      rw [if_neg hw, bind_ok hwidth, bind_run]
      cases readS 5 (t.withPrecision code) with
      | error e v => rfl
      | ok sh v =>
        simp only [bind_run, raiseIf_run, decide_eq_true_eq]
        by_cases hs : sh < 0 <;> simp [hs]

/-- A shift field past 15 is negative (R213). -/
theorem readS_shift_negative {shift : Nat} {rest : Bits} {s : State} (h16 : 16 ≤ shift) (h32 : shift < 32)
    (h : s.stream = natToBits 5 shift ++ rest) : ∃ sh, readS 5 s = .ok sh (s.skip 5) ∧ sh < 0 := by
  have hx : (BitVec.ofNat 5 shift).toNat = shift := Nat.mod_eq_of_lt h32
  rw [← hx] at h
  exact ⟨_, (readS_ok h).1, BitVec.toInt_neg_iff.mpr (by omega)⟩

/-! ### The widths of a partition -/

theorem ricePartition_refuses {width k : Nat} {s : State} (hk : s.cfg.maxReadWidth < k) (h : width ≤ s.stream.length) :
    ricePartition width k s =
      .error .ended (errorEntry .widthOutOfRange 2 0 { s.skip width with res.param := BitVec.ofNat 5 k }) := by
  have hpos : k ≥ 1 := by omega
  rw [ricePartition, bind_ok (skipBits_ok h), bind_ok (update_run _ _)]
  simp only [if_pos hpos]
  exact bind_error (checkWidth_refuses 2 (by simpa using hk))

theorem escapedValues_refuses {width : Nat} {s : State} (hw : s.cfg.maxReadWidth < width) (h : 5 ≤ s.stream.length) :
    escapedValues width s =
      .error .ended (errorEntry .widthOutOfRange 1 0 { s.skip 5 with res.escBits := BitVec.ofNat 5 width }) := by
  have hpos : width ≥ 1 := by omega
  rw [escapedValues, bind_ok (skipBits_ok h), bind_ok (update_run _ _)]
  simp only [if_pos hpos]
  exact bind_error (checkWidth_refuses 1 (by simpa using hw))

/-- A row `PART4_k` or `PART5_k` is a partition of its parameter (R98, R99). -/
theorem exec_of_riceParameter {i : Instr} {width k : Nat} (h : i.riceParameter? = some (width, k)) (s : State) :
    exec i s = outcome (ricePartition width k) s := by
  unfold Instr.riceParameter? at h
  split at h <;> cases h <;> rfl

/-- Settles O47: the LPC header's three refusals in the order it makes them, and the widths of the two kinds of partition. -/
theorem lpcAndPartitionErrors : Obligations.LpcAndPartitionErrors := by
  refine fun s => ⟨fun code shift rest hcode => ⟨fun h15 h => ?_, fun h15 hw h => ?_, fun h15 hw h16 h32 h => ?_⟩,
    fun i width k hi hk h => ?_, fun b hb h => ?_⟩
  · rw [lpcHeader_run (readU_ok hcode h).1, if_pos h15]
  · rw [lpcHeader_run (readU_ok hcode h).1, if_neg (Nat.ne_of_lt h15), if_pos (by simpa using hw)]
    rfl
  · rw [List.append_assoc] at h
    obtain ⟨hread, hrest⟩ := readU_ok hcode h
    obtain ⟨sh, hshift, hneg⟩ := readS_shift_negative (s := (s.skip 4).withPrecision code) h16 h32 hrest
    rw [lpcHeader_run hread, if_neg (Nat.ne_of_lt h15), if_neg (by simpa using hw), hshift, skip_withPrecision, ← skip_add]
    exact if_pos hneg
  · rw [exec_of_riceParameter hi, outcome_ended (ricePartition_refuses hk h)]
  · have hrun : exec (.esc b) s = outcome (escapedValues b.toNat) s := rfl
    rw [hrun, outcome_ended (escapedValues_refuses hb h), BitVec.ofNat_toNat, BitVec.setWidth_eq]

end Sys2Proof.Machine

/-!
The metadata parser's elements (R140 to R157): the marker, the block header and its checks, and a block passed through raw.
-/

namespace Sys2Proof.Machine

/-! ### The marker -/

/-- After the marker: no block is counted, and a block header comes next (R140). -/
def State.afterMarker (s : State) : State := { s with md.count := 0, seq.pos := .metadata }

@[simp] theorem afterMarker_stream (s : State) : s.afterMarker.stream = s.stream := rfl

@[simp] theorem afterMarker_pos (s : State) : s.afterMarker.seq.pos = .metadata := rfl

@[simp] theorem afterMarker_md (s : State) : s.afterMarker.md = { s.md with count := 0 } := rfl

@[simp] theorem afterMarker_metadataOut (s : State) : s.afterMarker.metadataOut = s.metadataOut := rfl

/-- Everything MARKER does once its field is ahead (R141, R140). -/
theorem readMarker_run {s : State} (m : BitVec 32) (h : 32 ≤ s.stream.length) :
    readMarker m s =
      if m = 0x664C6143 then .ok () (s.skip 32).afterMarker
      else .error .ended (errorEntry .metadataFormat 2 0 (s.skip 32)) := by
  have hmarker : (m.toNat != streamMarker) = true ↔ m ≠ 0x664C6143 := by
    have hvalue : streamMarker = (0x664C6143 : BitVec 32).toNat := rfl
    rw [bne_iff_ne, hvalue, ne_eq, BitVec.toNat_inj]
  rw [readMarker, bind_ok (skipBits_ok h)]
  simp only [bind_run, raiseIf_run, update_run, goto_run, hmarker]
  by_cases hm : m = 0x664C6143
  · simp only [if_pos hm, if_neg (not_not.mpr hm), State.afterMarker]
  · simp only [if_neg hm, if_pos hm]

/-- OPEN in `IDLE` runs to its end from its first element (R274). -/
theorem exec_cmdOpen_of_idle {s : State} (hp : s.seq.pos = .host) (hs : s.state = .idle) :
    exec .cmdOpen s = runCommand (beginOpen s) := by
  have hrun : exec .cmdOpen s = whenIdle s (openStream s) := rfl
  rw [hrun, whenIdle, if_pos hp, openStream, hs]

/-- Settles O29: the marker by its value, the element of one field cut short, and the first element of OPEN. -/
theorem markerCheck : Obligations.MarkerCheck := by
  intro m s
  have hrun : exec (.marker m) s = outcome (readMarker m) s := rfl
  refine ⟨fun h => ?_, fun h => ?_, exec_cmdOpen_of_idle⟩
  · rw [hrun, outcome, readMarker_run m h]
    by_cases hm : m = 0x664C6143
    · simp only [if_pos hm, State.afterMarker]
    · simp only [if_neg hm]
  · rw [hrun, outcome_ended (element_truncated (.marker m) rfl h)]

/-! ### The block header -/

/-- The header registers of a metadata block written (R142). -/
def State.withHeader (s : State) (last : Bool) (type : BitVec 7) (len : BitVec 24) : State :=
  { s with md := { s.md with last := last, type := type, len := len } }

@[simp] theorem withHeader_md (s : State) (last : Bool) (type : BitVec 7) (len : BitVec 24) :
    (s.withHeader last type len).md = { s.md with last := last, type := type, len := len } := rfl

@[simp] theorem withHeader_stream (s : State) (last : Bool) (type : BitVec 7) (len : BitVec 24) :
    (s.withHeader last type len).stream = s.stream := rfl

/-- BLOCK_HEADER whose 32 bits are ahead (R142). -/
theorem blockHeader_ok {s : State} (last : Bool) (type : BitVec 7) (len : BitVec 24) (h : 32 ≤ s.stream.length) :
    blockHeader last type len s = .ok () ((s.skip 32).withHeader last type len) := by
  have htype := skipBits_next (m := 1) (n := 7) (s := { s with md.last := last })
    (show _ ≤ s.stream.length by omega)
  have hlen := skipBits_next (m := 8) (n := 24) (s := { s with md.last := last, md.type := type })
    (show _ ≤ s.stream.length by omega)
  simp only [skip_with_md] at htype hlen
  rw [blockHeader, bind_ok (skipBits_ok (by omega)), bind_ok (update_run _ _), skip_md, bind_ok htype,
    bind_ok (update_run _ _), bind_ok hlen, update_run, State.withHeader, skip_md]

/-- Everything FIRST_BLOCK_CHECK does (R143). -/
theorem firstBlockCheck_run (s : State) :
    firstBlockCheck s =
      if s.md.count = 0 ∧ s.md.type ≠ 0 then .error .ended (errorEntry .metadataFormat 0 0 s)
      else if s.md.count ≠ 0 ∧ s.md.type = 0 then .error .ended (errorEntry .metadataFormat 3 0 s)
      else .ok () s := by
  rw [firstBlockCheck, bind_run, ask_run]
  simp only [bind_run, raiseIf_run, Bool.and_eq_true, beq_iff_eq, bne_iff_ne]
  by_cases h : s.md.count = 0 ∧ s.md.type ≠ 0
  · simp only [if_pos h]
  · simp only [if_neg h]

/-- The bits of a metadata block's header (R82). -/
def headerBits (last : Bool) (type len : Nat) : Bits := last :: natToBits 7 type ++ natToBits 24 len

theorem headerBits_length (last : Bool) (type len : Nat) : (headerBits last type len).length = 32 := by simp [headerBits]

/-- Every row passed through raw is a raw block of a type other than 0, its header on the wire first (R148 to R154). -/
theorem rawBlock_of_row {i : Instr} {last : Bool} {type : BitVec 7} {len : BitVec 24}
    (h : i.rawBlock? = some (last, type, len)) :
    type ≠ 0 ∧ i.encode = headerBits last type.toNat len.toNat ∧ ∀ s, exec i s = outcome (rawBlock last type len) s := by
  unfold Instr.rawBlock? at h
  split at h
  case h_8 last t len | h_9 last t len | h_10 last t len | h_11 last t len =>
    cases h
    have ht := t.isLt
    refine ⟨by bv_omega, ?_, fun _ => rfl⟩
    rw [headerBits, BitVec.toNat_ofNat, Nat.mod_eq_of_lt (by omega)]
    rfl
  case h_12 => cases h
  all_goals
    cases h
    exact ⟨by decide, rfl, fun _ => rfl⟩

/-- A block whose header is ahead: what FIRST_BLOCK_CHECK makes of it, and the rest of the block (R142, R143). -/
theorem blockStart_run {s : State} (last : Bool) (type : BitVec 7) (len : BitVec 24) (h : 32 ≤ s.stream.length) (m : M Unit) :
    (do blockHeader last type len; firstBlockCheck; m) s =
      (let t := (s.skip 32).withHeader last type len
       if s.md.count = 0 ∧ type ≠ 0 then .error .ended (errorEntry .metadataFormat 0 0 t)
       else if s.md.count ≠ 0 ∧ type = 0 then .error .ended (errorEntry .metadataFormat 3 0 t)
       else m t) := by
  have hcount : ((s.skip 32).withHeader last type len).md.count = s.md.count := by rw [withHeader_md, skip_md]
  have htype : ((s.skip 32).withHeader last type len).md.type = type := rfl
  rw [bind_ok (blockHeader_ok last type len h), bind_run, firstBlockCheck_run, hcount, htype]
  by_cases hfirst : s.md.count = 0 ∧ type ≠ 0
  · simp only [if_pos hfirst]
  · by_cases hlater : s.md.count ≠ 0 ∧ type = 0
    · simp only [if_neg hfirst, if_pos hlater]
    · simp only [if_neg hfirst, if_neg hlater]

/-- FIRST_BLOCK_CHECK passes StreamInfo as the first block, and every other type after it. -/
theorem blockStart_ok {last : Bool} {type : BitVec 7} {len : BitVec 24} {s : State} (h : 32 ≤ s.stream.length)
    (hfirst : s.md.count = 0 ↔ type = 0) (m : M Unit) :
    (do blockHeader last type len; firstBlockCheck; m) s = m ((s.skip 32).withHeader last type len) := by
  rw [blockStart_run last type len h, if_neg fun hc => hc.2 (hfirst.mp hc.1), if_neg fun hc => hc.1 (hfirst.mpr hc.2)]

/-- Settles O32: FIRST_BLOCK_CHECK refuses the block in the first two cases, and passes it in the third to the length's check. -/
theorem metadataFormatErrors : Obligations.MetadataFormatErrors := by
  refine fun s h => ⟨fun i last type len hi hcount => ?_, fun last len hcount => ?_, fun last len hcount hlen => ?_⟩
  · obtain ⟨htype, -, hexec⟩ := rawBlock_of_row hi
    have hrun : rawBlock last type len s = _ := blockStart_run last type len h _
    rw [if_pos ⟨hcount, htype⟩] at hrun
    exact (hexec s).trans (outcome_ended hrun)
  · have hrun : streamInfoBlock last len s = _ := blockStart_run last 0 len h _
    rw [if_neg (by simp), if_pos ⟨hcount, rfl⟩] at hrun
    exact outcome_ended hrun
  · have hrun : streamInfoBlock last len s = _ := blockStart_ok h (iff_of_true hcount rfl) _
    have hne : len.toNat ≠ 34 := fun h34 => hlen (BitVec.eq_of_toNat_eq h34)
    rw [bind_run, raiseIf_run, if_pos (bne_iff_ne.mpr hne)] at hrun
    exact outcome_ended hrun

/-! ### A block passed through raw -/

/-- The stream after a move over bits that are ahead. -/
theorem stream_skip_of_ahead {n : Nat} {bits rest : Bits} {s : State} (h : s.stream = bits ++ rest) (hn : bits.length = n) :
    (s.skip n).stream = rest :=
  (readUFrom_ok 0 hn h).2

/-- The record of the block in the header registers emitted (R280). -/
def State.withRecord (s : State) (body : MetadataBody) : State :=
  { s with metadataOut := s.metadataOut ++ [{ last := s.md.last, type := s.md.type, length := s.md.len, body := body }] }

@[simp] theorem withRecord_stream (s : State) (body : MetadataBody) : (s.withRecord body).stream = s.stream := rfl

/-- A block's body has been read: the block is counted, and OPEN goes on to the next one or ends (R140, R156). -/
def State.blockEnd (s : State) : State :=
  let t : State := { s with md.count := countBlock s }
  if s.md.last then opened t else { t with seq.pos := .metadata }

theorem endBlock_run (s : State) : endBlock s = .ok () s.blockEnd := by
  rw [endBlock, bind_run, update_run, State.blockEnd]
  simp only [bind_run, ask_run]
  cases s.md.last <;> rfl

theorem skip_withHeader (n : Nat) (last : Bool) (type : BitVec 7) (len : BitVec 24) (s : State) :
    (s.withHeader last type len).skip n = (s.skip n).withHeader last type len := by
  unfold State.withHeader
  rw [skip_with_md, skip_md]

/-- Whole bytes that are ahead (R155). -/
theorem readBytes_ok {body : List Byte} {rest : Bits} {s : State} (h : s.stream = body.flatMap byteToBits ++ rest) :
    readBytes body.length s = .ok body (s.skip (8 * body.length)) ∧ (s.skip (8 * body.length)).stream = rest := by
  induction body generalizing s with
  | nil => exact ⟨rfl, h⟩
  | cons b body ih =>
    rw [List.flatMap_cons, List.append_assoc] at h
    obtain ⟨hbyte, hnext⟩ := readU_ok b.isLt h
    obtain ⟨hbody, hrest⟩ := ih hnext
    rw [List.length_cons, readBytes, bind_ok hbyte, bind_ok hbody, Nat.mul_succ, Nat.add_comm, skip_add, BitVec.ofNat_toNat,
      BitVec.setWidth_eq]
    exact ⟨rfl, hrest⟩

/-- RAW_BODY whose bytes are ahead (R155). -/
theorem rawBody_ok {body : List Byte} {rest : Bits} {s : State} (h : s.stream = body.flatMap byteToBits ++ rest) :
    rawBody body.length s = .ok () ((s.skip (8 * body.length)).withRecord (.raw body)) := by
  rw [rawBody, bind_ok (readBytes_ok h).1]
  rfl

/-- A raw block read up to its end (R142, R155). -/
def State.rawRead (s : State) (last : Bool) (type : BitVec 7) (len : BitVec 24) (body : List Byte) : State :=
  ((s.skip (32 + 8 * body.length)).withHeader last type len).withRecord (.raw body)

/-- A raw block after the first, its header and its body ahead (R148 to R156). -/
theorem rawBlock_ok {last : Bool} {type : BitVec 7} {len : BitVec 24} {body : List Byte} {rest : Bits} {s : State}
    (htype : type ≠ 0) (hcount : s.md.count ≠ 0) (hlen : body.length = len.toNat)
    (h : s.stream = headerBits last type.toNat len.toNat ++ body.flatMap byteToBits ++ rest) :
    rawBlock last type len s = .ok () (s.rawRead last type len body).blockEnd ∧
      (s.rawRead last type len body).stream = rest := by
  rw [List.append_assoc] at h
  have hahead : 32 ≤ s.stream.length := by rw [h, List.length_append, headerBits_length]; omega
  have hbody : ((s.skip 32).withHeader last type len).stream = body.flatMap byteToBits ++ rest :=
    (withHeader_stream ..).trans (stream_skip_of_ahead h (headerBits_length ..))
  have hrun : rawBlock last type len s = _ := blockStart_ok hahead (iff_of_false hcount htype) _
  rw [← hlen, bind_ok (rawBody_ok hbody), endBlock_run, skip_withHeader, ← skip_add] at hrun
  obtain ⟨-, hrest⟩ := readBytes_ok hbody
  rw [skip_withHeader, ← skip_add] at hrest
  exact ⟨hrun, hrest⟩

/-- Settles O30: the row is a raw block, and what its end leaves is the state stated, for either value of the last flag. -/
theorem rawBlockPassesThrough : Obligations.RawBlockPassesThrough := by
  intro i last type len body rest s hi hcount hlen h
  obtain ⟨htype, hencode, hexec⟩ := rawBlock_of_row hi
  rw [hencode] at h
  obtain ⟨hrun, -⟩ := rawBlock_ok htype hcount hlen h
  rw [hexec, outcome_ok hrun, State.blockEnd, State.rawRead, hlen]
  cases last <;> simp [countBlock, State.withHeader, State.withRecord, opened]

end Sys2Proof.Machine

/-!
OPEN of an encoded stream (R140): the element at the cursor, the StreamInfo block, and the run over the blocks that follow.
-/

namespace Sys2Proof.Machine

/-! ### StreamInfo -/

/-- The StreamInfo registers written (R27). -/
def State.withStreamInfo (s : State) (si : StreamInfo) : State := { s with si := si }

theorem skip_withStreamInfo (n : Nat) (si : StreamInfo) (s : State) :
    (s.withStreamInfo si).skip n = (s.skip n).withStreamInfo si :=
  skip_with_si n si s

@[simp] theorem withStreamInfo_stream (s : State) (si : StreamInfo) : (s.withStreamInfo si).stream = s.stream := rfl

/-- With the bits ahead the operation reads them and takes the StreamInfo registers from `x` to `y` (R145). -/
def Fills (bits : Bits) (x y : StreamInfo) (m : M Unit) : Prop :=
  ∀ (s : State) (rest : Bits), s.stream = bits ++ rest →
    m (s.withStreamInfo x) = .ok () ((s.skip bits.length).withStreamInfo y)

theorem Fills.write {x y : StreamInfo} (g : StreamInfo → StreamInfo) (hy : g x = y) :
    Fills [] x y (update fun s => s.withStreamInfo (g s.si)) :=
  fun _ _ _ => hy ▸ rfl

theorem Fills.run {bits rest : Bits} {y : StreamInfo} {m : M Unit} {s : State} (hm : Fills bits s.si y m)
    (h : s.stream = bits ++ rest) : m s = .ok () ((s.skip bits.length).withStreamInfo y) :=
  hm s rest h

/-- A field read, and an operation on its value. -/
theorem Fills.read {n v : Nat} {bits : Bits} {x y : StreamInfo} {m : Nat → M Unit} (hv : v < 2 ^ n)
    (hm : Fills bits x y (m v)) : Fills (natToBits n v ++ bits) x y (do let v ← readU n; m v) := by
  intro s rest h
  rw [List.append_assoc] at h
  obtain ⟨hread, hnext⟩ := readU_ok hv ((withStreamInfo_stream s x).trans h)
  rw [skip_withStreamInfo] at hread hnext
  rw [bind_ok hread, hm (s.skip n) rest hnext, ← skip_add, List.length_append, natToBits_length]

/-- A field read, its register written by `g`, and an operation after it. -/
theorem Fills.field {n v : Nat} {bits : Bits} {x y : StreamInfo} {m : M Unit} (g : Nat → StreamInfo → StreamInfo)
    (hv : v < 2 ^ n) (hm : Fills bits (g v x) y m) :
    Fills (natToBits n v ++ bits) x y (do let v ← readU n; update (fun s => s.withStreamInfo (g v s.si)); m) :=
  .read hv fun s rest h => (bind_ok (update_run _ _)).trans (hm s rest h)

theorem encodable_iff {si : StreamInfo} :
    si.encodable = true ↔
      (si.valid = true ∧ 1 ≤ si.channels.toNat ∧ si.channels.toNat ≤ 8) ∧ 1 ≤ si.bps.toNat ∧ si.bps.toNat ≤ 32 := by
  simp [StreamInfo.encodable]

/-- The values the fields of an encodable set are read back to (R83). -/
theorem decoded_streamInfo {si : StreamInfo} (h : si.encodable = true) :
    ({ minBlock := BitVec.ofNat 16 si.minBlock.toNat, maxBlock := BitVec.ofNat 16 si.maxBlock.toNat
       minFrame := BitVec.ofNat 24 si.minFrame.toNat, maxFrame := BitVec.ofNat 24 si.maxFrame.toNat
       rate := BitVec.ofNat 20 si.rate.toNat, channels := BitVec.ofNat 4 (si.channels.toNat - 1 + 1)
       bps := BitVec.ofNat 6 (si.bps.toNat - 1 + 1), total := BitVec.ofNat 36 si.total.toNat
       md5 := BitVec.ofNat 128 (si.md5.toNat / 2 ^ 64 * 2 ^ 64 + si.md5.toNat % 2 ^ 64), valid := true } : StreamInfo) = si := by
  obtain ⟨⟨hvalid, hchannels, -⟩, hbps, -⟩ := encodable_iff.mp h
  simp only [Nat.sub_add_cancel hchannels, Nat.sub_add_cancel hbps, Nat.div_add_mod', BitVec.ofNat_toNat, BitVec.setWidth_eq,
    ← hvalid]

/-- The body of an encodable StreamInfo block fills the registers, whatever they held (R83, R145). -/
theorem streamInfoFields_fills {si : StreamInfo} (henc : si.encodable = true) (x : StreamInfo) :
    Fills (streamInfoBits si) x si streamInfoFields := by
  obtain ⟨⟨-, -, hchannels⟩, -, hbps⟩ := encodable_iff.mp henc
  have hmd5 := si.md5.isLt
  rw [streamInfoBits, ← List.append_nil (_ ++ natToBits 64 (si.md5.toNat % 2 ^ 64))]
  simp only [List.append_assoc]
  refine .field (fun v x => { x with minBlock := .ofNat 16 v }) si.minBlock.isLt ?_
  refine .field (fun v x => { x with maxBlock := .ofNat 16 v }) si.maxBlock.isLt ?_
  refine .field (fun v x => { x with minFrame := .ofNat 24 v }) si.minFrame.isLt ?_
  refine .field (fun v x => { x with maxFrame := .ofNat 24 v }) si.maxFrame.isLt ?_
  refine .field (fun v x => { x with rate := .ofNat 20 v }) si.rate.isLt ?_
  refine .field (fun v x => { x with channels := .ofNat 4 (v + 1) }) (by omega) ?_
  refine .field (fun v x => { x with bps := .ofNat 6 (v + 1) }) (by omega) ?_
  refine .field (fun v x => { x with total := .ofNat 36 v }) si.total.isLt ?_
  refine .read (v := si.md5.toNat / 2 ^ 64) (by omega) ?_
  refine .field (fun lo x => { x with md5 := .ofNat 128 (si.md5.toNat / 2 ^ 64 * 2 ^ 64 + lo) }) (by omega) ?_
  exact .write (fun x => { x with valid := true }) (decoded_streamInfo henc)

theorem streamInfoBits_length (si : StreamInfo) : (streamInfoBits si).length = 272 := by simp [streamInfoBits]

/-- A StreamInfo block read up to its end (R142, R145). -/
def State.streamInfoRead (s : State) (last : Bool) (si : StreamInfo) : State :=
  (((s.skip 304).withHeader last 0 34).withStreamInfo si).withRecord si.recordBody

theorem streamInfoRead_stream (s : State) (last : Bool) (si : StreamInfo) :
    (s.streamInfoRead last si).stream = (s.skip 304).stream := by
  rw [State.streamInfoRead, withRecord_stream, withStreamInfo_stream, withHeader_stream]

/-- The first block, StreamInfo, its header and its body ahead (R142, R145, R280). -/
theorem streamInfoBlock_ok {last : Bool} {si : StreamInfo} {rest : Bits} {s : State} (henc : si.encodable = true)
    (hcount : s.md.count = 0) (h : s.stream = headerBits last 0 34 ++ streamInfoBits si ++ rest) :
    streamInfoBlock last 34 s = .ok () (s.streamInfoRead last si).blockEnd ∧ (s.streamInfoRead last si).stream = rest := by
  rw [List.append_assoc] at h
  have hahead : 32 ≤ s.stream.length := by rw [h, List.length_append, headerBits_length]; omega
  have hbody : ((s.skip 32).withHeader last 0 34).stream = streamInfoBits si ++ rest :=
    (withHeader_stream ..).trans (stream_skip_of_ahead h (headerBits_length ..))
  have hrest := stream_skip_of_ahead hbody (streamInfoBits_length si)
  have hfields := (streamInfoFields_fills henc _).run hbody
  have hlen : raiseIf ((34 : BitVec 24).toNat != 34) .metadataFormat 1 ((s.skip 32).withHeader last 0 34) =
    .ok () ((s.skip 32).withHeader last 0 34) := rfl
  have hrun : streamInfoBlock last 34 s = _ := blockStart_ok hahead (iff_of_true hcount rfl) _
  rw [streamInfoBits_length, skip_withHeader, ← skip_add] at hfields
  rw [skip_withHeader, withHeader_stream, ← skip_add] at hrest
  rw [bind_ok hlen, bind_ok hfields] at hrun
  exact ⟨hrun.trans (endBlock_run _), (streamInfoRead_stream s last si).trans hrest⟩

/-! ### The element at the cursor -/

/-- The bits of the next n answers are the first 8 n of those to come, as far as there are any. -/
theorem answerBits_take (n : Nat) (src : List SrcAnswer) : answerBits (src.take n) = (answerBits src).take (8 * n) := by
  induction n generalizing src with
  | zero => rfl
  | succ n ih =>
    match src with
    | [] => rfl
    | .ioErr _ :: _ => rfl
    | .byte b :: rest =>
      have hn : 8 * (n + 1) = (natToBits 8 b.toNat).length + 8 * n := by rw [natToBits_length]; omega
      rw [List.take_succ_cons, answerBits_byte, answerBits_byte, ih, hn, List.take_length_add_append]

theorem take_append_take (n : Nat) (a b : Bits) : (a ++ b.take n).take n = (a ++ b).take n := by
  rw [List.take_append, List.take_append, List.take_take, Nat.min_eq_left (Nat.sub_le ..)]

/-- Where the stream has 32 bits, the sequencer looks at its first 32. -/
theorem upcoming_of_ahead {bits rest : Bits} {s : State} (hbits : bits.length = 32) (h : s.stream = bits ++ rest) :
    upcoming s = bits := by
  have hlen : 32 ≤ s.stream.length := by rw [h, List.length_append]; omega
  have htake : s.stream.take 32 = bits := by rw [h, ← hbits, List.take_left]
  rw [State.stream] at hlen htake
  rw [List.length_append] at hlen
  rw [upcoming, answerBits_take, List.take_append_of_le_length (by rw [List.length_append, List.length_take]; omega),
    take_append_take, htake]

theorem decodeHere_of_ahead {bits rest : Bits} {s : State} (hbits : bits.length = 32) (h : s.stream = bits ++ rest) :
    decodeHere s = decode s.seq.pos s.bitsLeft bits := by
  rw [decodeHere, upcoming_of_ahead hbits h]

theorem elementStep_of_decode {i : Instr} {rest : Bits} {s : State} (h : decodeHere s = .ok (i, rest)) :
    elementStep s = runElement i s := by
  rw [elementStep, h]

/-- A field of the pattern that stands first is read, whatever is decoded after it. -/
theorem field_natToBits_bind {α : Type} {n v : Nat} (h : v < 2 ^ n) (rest : Bits) (f : Nat × Bits → Except DecodeError α) :
    field n (natToBits n v ++ rest) >>= f = f (v, rest) := by
  rw [field_natToBits h]
  rfl

/-- The stream marker ahead is the element MARKER (R141). -/
theorem elementStep_marker {m : BitVec 32} {rest : Bits} {s : State} (hp : s.seq.pos = .marker)
    (h : s.stream = natToBits 32 m.toNat ++ rest) : elementStep s = outcome (readMarker m) s := by
  have hdecode : decodeHere s = .ok (.marker m, []) := by
    rw [decodeHere_of_ahead (natToBits_length ..) h, hp, ← List.append_nil (natToBits 32 m.toNat), decode,
      field_natToBits_bind m.isLt]
    simp only [BitVec.ofNat_toNat, BitVec.setWidth_eq]
  exact elementStep_of_decode hdecode

/-- A block's header is decoded by its type (R82). -/
theorem decode_header (last : Bool) (type : BitVec 7) (len : BitVec 24) (align : Nat) :
    decode .metadata align (headerBits last type.toNat len.toNat) = .ok (metadataOf last type.toNat len, []) := by
  have hlast : (last.toNat == 1) = last := by cases last <;> rfl
  have hbit (rest : Bits) : last :: rest = natToBits 1 last.toNat ++ rest := by cases last <;> rfl
  rw [headerBits, List.cons_append, hbit, ← List.append_nil (natToBits 24 len.toNat), decode,
    field_natToBits_bind last.toNat_lt]
  dsimp only
  rw [field_natToBits_bind type.isLt]
  dsimp only
  rw [field_natToBits_bind len.isLt, hlast, BitVec.ofNat_toNat, BitVec.setWidth_eq]

/-- Every type but 0 is a row passed through raw (R148 to R154). -/
theorem rawBlock?_metadataOf {last : Bool} {type : BitVec 7} {len : BitVec 24} (h : type ≠ 0) :
    (metadataOf last type.toNat len).rawBlock? = some (last, type, len) := by
  have hlt := type.isLt
  have htype {t : BitVec 7} (ht : t.toNat = type.toNat) : some (last, t, len) = some (last, type, len) := by
    rw [BitVec.eq_of_toNat_eq ht]
  unfold metadataOf
  split
  case h_1 h0 => exact absurd (BitVec.eq_of_toNat_eq h0) h
  case h_9 h0 h1 h2 h3 h4 h5 h6 h7 =>
    simp only [imp_false] at h0 h1 h2 h3 h4 h5 h6 h7
    split_ifs
    all_goals
      refine htype ?_
      rw [BitVec.toNat_ofNat, BitVec.toNat_ofNat]
      omega
  all_goals exact htype (Eq.symm ‹_›)

/-- A block's header ahead is the element of its type. -/
theorem elementStep_header {last : Bool} {type : BitVec 7} {len : BitVec 24} {rest : Bits} {s : State}
    (hp : s.seq.pos = .metadata) (h : s.stream = headerBits last type.toNat len.toNat ++ rest) :
    elementStep s = exec (metadataOf last type.toNat len) s := by
  have hdecode : decodeHere s = .ok (metadataOf last type.toNat len, []) := by
    rw [decodeHere_of_ahead (headerBits_length ..) h, hp, decode_header]
  rw [elementStep_of_decode hdecode, exec_eq_runElement _ (by rw [position_metadataOf]; decide)]

/-! ### The run over the blocks -/

theorem drain_host {n : Nat} {s : State} (hp : s.seq.pos = .host) : drain n s = .next s := by
  cases n with
  | zero => rfl
  | succ n => rw [drain, if_pos hp]

theorem drain_element {n : Nat} {s t : State} (hp : s.seq.pos ≠ .host) (h : elementStep s = .next t) :
    drain (n + 1) s = drain n t := by
  rw [drain, if_neg hp, h]

theorem answerBits_length_le (src : List SrcAnswer) : (answerBits src).length ≤ 8 * src.length := by
  match src with
  | [] => exact Nat.zero_le _
  | .ioErr _ :: _ => exact Nat.zero_le _
  | .byte b :: rest =>
    have := answerBits_length_le rest
    rw [answerBits_byte, List.length_append, natToBits_length, List.length_cons]
    omega

/-- A command has fuel for an element per bit ahead, and two more (R339). -/
theorem stream_length_add_two_le_commandFuel (s : State) : s.stream.length + 2 ≤ commandFuel s := by
  have := answerBits_length_le s.src
  rw [State.stream, List.length_append, natToBits_length, commandFuel]
  omega

/-- `f` of each element, told which is the last. -/
def flagLast {α β : Type} (f : Bool → α → β) (l : List α) : List β :=
  l.mapIdx fun k a => f (decide (k + 1 = l.length)) a

theorem flagLast_cons {α β : Type} (f : Bool → α → β) (a : α) (l : List α) :
    flagLast f (a :: l) = f l.isEmpty a :: flagLast f l := by
  have hlast : decide (0 = l.length) = l.isEmpty := by cases l <;> rfl
  simp only [flagLast, List.mapIdx_cons, List.length_cons, Nat.add_right_cancel_iff, hlast]

/-- The bits of a raw block: its type and its body (R82). -/
def rawBits (last : Bool) (b : BitVec 7 × List Byte) : Bits :=
  headerBits last b.1.toNat b.2.length ++ b.2.flatMap byteToBits

/-- The record of a raw block (R280). -/
def rawRecord (last : Bool) (b : BitVec 7 × List Byte) : MetadataRecord :=
  { last := last, type := b.1, length := BitVec.ofNat 24 b.2.length, body := .raw b.2 }

/-- OPEN has ended with these StreamInfo registers, number of blocks and records, the rest of the stream ahead (R156, R274). -/
structure Opened (t : State) (si : StreamInfo) (count : Nat) (records : List MetadataRecord) (rest : Bits) : Prop where
  state : t.state = .ready
  lastResult : t.lastResult = .opened
  si : t.si = si
  stream : t.stream = rest
  count : t.md.count = BitVec.ofNat 32 count
  last : t.md.last = true
  metadataOut : t.metadataOut = records

/-- `MD_COUNT` below the register's top. -/
theorem countBlock_of_count {k : Nat} {s : State} (h : s.md.count = BitVec.ofNat 32 k) (hk : k + 1 < 2 ^ 32) :
    countBlock s = BitVec.ofNat 32 (k + 1) := by
  have hnext : s.md.count + 1 = BitVec.ofNat 32 (k + 1) := by rw [h, BitVec.ofNat_add]; rfl
  have hne : BitVec.ofNat 32 (k + 1) ≠ 0 := fun h0 =>
    Nat.succ_ne_zero k ((Nat.mod_eq_of_lt hk).symm.trans (congrArg BitVec.toNat h0))
  rw [countBlock_of_lt (hnext ▸ hne), hnext]

/-- After a block that is the last one OPEN has ended (R156). -/
theorem blockEnd_last {s : State} (h : s.md.last = true) : s.blockEnd = opened { s with md.count := countBlock s } := if_pos h

/-- After a block that is not the last one a block header comes next (R140). -/
theorem blockEnd_more {s : State} (h : s.md.last = false) : s.blockEnd.seq.pos = .metadata := by
  rw [State.blockEnd, if_neg (by simp [h])]

@[simp] theorem blockEnd_md (s : State) : s.blockEnd.md = { s.md with count := countBlock s } := by
  unfold State.blockEnd
  split <;> rfl

@[simp] theorem blockEnd_si (s : State) : s.blockEnd.si = s.si := by
  unfold State.blockEnd
  split <;> rfl

@[simp] theorem blockEnd_metadataOut (s : State) : s.blockEnd.metadataOut = s.metadataOut := by
  unfold State.blockEnd
  split <;> rfl

@[simp] theorem blockEnd_stream (s : State) : s.blockEnd.stream = s.stream := by
  unfold State.blockEnd
  split <;> rfl

@[simp] theorem rawRead_md (s : State) (last : Bool) (type : BitVec 7) (len : BitVec 24) (body : List Byte) :
    (s.rawRead last type len body).md = { s.md with last := last, type := type, len := len } := by
  simp [State.rawRead, State.withRecord]

@[simp] theorem rawRead_si (s : State) (last : Bool) (type : BitVec 7) (len : BitVec 24) (body : List Byte) :
    (s.rawRead last type len body).si = s.si := by
  simp [State.rawRead, State.withRecord, State.withHeader]

@[simp] theorem rawRead_metadataOut (s : State) (last : Bool) (type : BitVec 7) (len : BitVec 24) (body : List Byte) :
    (s.rawRead last type len body).metadataOut =
      s.metadataOut ++ [{ last := last, type := type, length := len, body := .raw body }] := by
  simp [State.rawRead, State.withRecord, State.withHeader]

@[simp] theorem streamInfoRead_md (s : State) (last : Bool) (si : StreamInfo) :
    (s.streamInfoRead last si).md = { s.md with last := last, type := 0, len := 34 } := by
  simp [State.streamInfoRead, State.withRecord, State.withStreamInfo]

@[simp] theorem streamInfoRead_si (s : State) (last : Bool) (si : StreamInfo) : (s.streamInfoRead last si).si = si := rfl

@[simp] theorem streamInfoRead_metadataOut (s : State) (last : Bool) (si : StreamInfo) :
    (s.streamInfoRead last si).metadataOut =
      s.metadataOut ++ [{ last := last, type := 0, length := 34, body := si.recordBody }] := by
  simp [State.streamInfoRead, State.withRecord, State.withHeader, State.withStreamInfo]

/-- A raw block ahead, not the first: the element reads it up to its end. -/
theorem elementStep_raw {last : Bool} {b : BitVec 7 × List Byte} {rest : Bits} {s : State} (hp : s.seq.pos = .metadata)
    (htype : b.1 ≠ 0) (hlen : b.2.length < 2 ^ 24) (hcount : s.md.count ≠ 0) (h : s.stream = rawBits last b ++ rest) :
    elementStep s = .next (s.rawRead last b.1 (BitVec.ofNat 24 b.2.length) b.2).blockEnd ∧
      (s.rawRead last b.1 (BitVec.ofNat 24 b.2.length) b.2).stream = rest := by
  have hnat : b.2.length = (BitVec.ofNat 24 b.2.length).toNat := (Nat.mod_eq_of_lt hlen).symm
  rw [rawBits, hnat] at h
  obtain ⟨hrun, hrest⟩ := rawBlock_ok htype hcount hnat h
  rw [List.append_assoc] at h
  obtain ⟨-, -, hexec⟩ := rawBlock_of_row (rawBlock?_metadataOf htype)
  rw [elementStep_header hp h, hexec, outcome_ok hrun]
  exact ⟨rfl, hrest⟩

/-- The StreamInfo block ahead, the first one: the element reads it up to its end. -/
theorem elementStep_streamInfo {last : Bool} {si : StreamInfo} {rest : Bits} {s : State} (hp : s.seq.pos = .metadata)
    (henc : si.encodable = true) (hcount : s.md.count = 0)
    (h : s.stream = headerBits last 0 34 ++ streamInfoBits si ++ rest) :
    elementStep s = .next (s.streamInfoRead last si).blockEnd ∧ (s.streamInfoRead last si).stream = rest := by
  obtain ⟨hrun, hrest⟩ := streamInfoBlock_ok henc hcount h
  rw [List.append_assoc] at h
  have hexec : exec (metadataOf last (0 : BitVec 7).toNat 34) s = outcome (streamInfoBlock last 34) s := rfl
  rw [elementStep_header (type := 0) (len := 34) hp h, hexec, outcome_ok hrun]
  exact ⟨rfl, hrest⟩

/-- From the end of a block that is the last one exactly where no block is left, OPEN reads the blocks that are left. -/
theorem drain_rawBlocks {blocks : List (BitVec 7 × List Byte)} {n k : Nat} {rest : Bits} {s : State}
    (hblocks : ∀ b ∈ blocks, b.1 ≠ 0 ∧ b.2.length < 2 ^ 24) (hn : blocks.length ≤ n)
    (hlast : s.md.last = blocks.isEmpty) (hcount : s.md.count = BitVec.ofNat 32 k) (hk : k + 1 + blocks.length < 2 ^ 32)
    (h : s.stream = (flagLast rawBits blocks).flatten ++ rest) :
    ∃ t, drain n s.blockEnd = .next t ∧
      Opened t s.si (k + 1 + blocks.length) (s.metadataOut ++ flagLast rawRecord blocks) rest := by
  induction blocks generalizing n k s with
  | nil =>
    have hend := blockEnd_last hlast
    refine ⟨s.blockEnd, drain_host (by rw [hend]; rfl), ?_⟩
    exact
      { state := by rw [hend]; rfl
        lastResult := by rw [hend]; rfl
        si := blockEnd_si s
        stream := by rw [blockEnd_stream, h]; rfl
        count := by rw [blockEnd_md]; exact countBlock_of_count hcount hk
        last := by rw [blockEnd_md]; exact hlast
        metadataOut := by rw [blockEnd_metadataOut]; exact (List.append_nil _).symm }
  | cons b bs ih =>
    obtain ⟨n, rfl⟩ := Nat.exists_eq_add_of_le' (Nat.le_trans (Nat.le_add_left 1 bs.length) hn)
    obtain ⟨⟨htype, hlen⟩, hbs⟩ := List.forall_mem_cons.mp hblocks
    have hpos := blockEnd_more hlast
    have hnext : s.blockEnd.md.count = BitVec.ofNat 32 (k + 1) := by
      rw [blockEnd_md]
      exact countBlock_of_count hcount (by omega)
    rw [flagLast_cons, List.flatten_cons, List.append_assoc, ← blockEnd_stream] at h
    obtain ⟨hstep, hrest⟩ := elementStep_raw hpos htype hlen (by rw [blockEnd_md]; exact countBlock_ne_zero s) h
    rw [List.length_cons] at hn hk ⊢
    obtain ⟨t, ht, hopened⟩ := ih (n := n) (k := k + 1) hbs (by omega) (by rw [rawRead_md]) (by rw [rawRead_md, hnext])
      (by omega) hrest
    rw [rawRead_si, blockEnd_si, rawRead_metadataOut, blockEnd_metadataOut, List.append_assoc] at hopened
    rw [drain_element (by simp [hpos]) hstep, flagLast_cons, Nat.add_comm bs.length, ← Nat.add_assoc]
    exact ⟨t, ht, hopened⟩

/-- A raw block has at least a bit. -/
theorem length_le_flatten_rawBits (blocks : List (BitVec 7 × List Byte)) :
    blocks.length ≤ (flagLast rawBits blocks).flatten.length := by
  induction blocks with
  | nil => exact Nat.zero_le _
  | cons b bs ih =>
    rw [flagLast_cons, List.flatten_cons, List.length_append, rawBits, List.length_append, headerBits_length, List.length_cons]
    omega

/-- The bits of an encoded stream of metadata: the marker, the StreamInfo block and raw blocks, the last block flagged
(R81 to R83). -/
def metadataBits (si : StreamInfo) (blocks : List (BitVec 7 × List Byte)) : Bits :=
  natToBits 32 0x664C6143 ++ (headerBits blocks.isEmpty 0 34 ++ streamInfoBits si) ++ (flagLast rawBits blocks).flatten

/-- The records of an encoded stream of metadata (R280). -/
def metadataRecords (si : StreamInfo) (blocks : List (BitVec 7 × List Byte)) : List MetadataRecord :=
  { last := blocks.isEmpty, type := 0, length := 34, body := si.recordBody } :: flagLast rawRecord blocks

theorem length_le_metadataBits (si : StreamInfo) (blocks : List (BitVec 7 × List Byte)) :
    blocks.length ≤ (metadataBits si blocks).length := by
  rw [metadataBits, List.length_append]
  exact (length_le_flatten_rawBits blocks).trans (Nat.le_add_left ..)

/-- From the marker OPEN reads the StreamInfo block and the blocks after it. -/
theorem drain_metadata {si : StreamInfo} {blocks : List (BitVec 7 × List Byte)} {n : Nat} {rest : Bits} {s : State}
    (hp : s.seq.pos = .marker) (henc : si.encodable = true) (hblocks : ∀ b ∈ blocks, b.1 ≠ 0 ∧ b.2.length < 2 ^ 24)
    (hlen : blocks.length < 2 ^ 32 - 1) (hn : blocks.length ≤ n) (h : s.stream = metadataBits si blocks ++ rest) :
    ∃ t, drain (n + 2) s = .next t ∧
      Opened t si (blocks.length + 1) (s.metadataOut ++ metadataRecords si blocks) rest := by
  rw [metadataBits, List.append_assoc, List.append_assoc] at h
  have hahead : 32 ≤ s.stream.length := by rw [h, List.length_append, natToBits_length]; omega
  have hmarker : elementStep s = .next (s.skip 32).afterMarker := by
    rw [elementStep_marker (m := 0x664C6143) hp h, outcome_ok ((readMarker_run _ hahead).trans (if_pos rfl))]
  have hfirst : (s.skip 32).afterMarker.stream = _ :=
    (afterMarker_stream _).trans (stream_skip_of_ahead h (natToBits_length ..))
  obtain ⟨hinfo, hrest⟩ := elementStep_streamInfo (afterMarker_pos _) henc (by rw [afterMarker_md]) hfirst
  obtain ⟨t, ht, hopened⟩ := drain_rawBlocks (k := 0) hblocks hn (by rw [streamInfoRead_md])
    (by rw [streamInfoRead_md, afterMarker_md]; rfl) (by omega) hrest
  rw [streamInfoRead_si, streamInfoRead_metadataOut, afterMarker_metadataOut, skip_metadataOut, List.append_assoc,
    Nat.zero_add, Nat.add_comm] at hopened
  rw [drain_element (by simp [hp]) hmarker, drain_element (by simp) hinfo]
  exact ⟨t, ht, hopened⟩

/-- Settles O27: OPEN's run has fuel for each block, and takes the marker, the StreamInfo block and the blocks after it. -/
theorem openDecodesEncodedMetadata : Obligations.OpenDecodesEncodedMetadata := by
  intro s si blocks rest hp hidle hmarker henc hblocks hlen
  dsimp only
  intro h
  change s.stream = metadataBits si blocks ++ rest at h
  have hfuel : blocks.length + 2 ≤ commandFuel s := by
    have hbits := length_le_metadataBits si blocks
    have hstream := stream_length_add_two_le_commandFuel s
    rw [h, List.length_append] at hstream
    omega
  obtain ⟨n, hn⟩ := Nat.exists_eq_add_of_le' (Nat.le_trans (Nat.le_add_left 2 _) hfuel)
  have hbegin : beginOpen s = { s with seq.pos := .marker } := if_pos hmarker
  obtain ⟨t, ht, hopened⟩ := drain_metadata (n := n) (s := { s with seq.pos := .marker }) rfl henc hblocks hlen
    (by omega) h
  refine ⟨t, ?_, hopened.state, hopened.lastResult, hopened.si, hopened.stream, hopened.count, hopened.last,
    hopened.metadataOut⟩
  rw [exec_cmdOpen_of_idle hp hidle, hbegin, ← ht, ← hn]
  rfl

end Sys2Proof.Machine

/-!
The frame header's elements (R170 to R186): the codes, each written and checked once read, the trailing fields, and the header's
checksum.
-/

namespace Sys2Proof.Machine

/-! ### Fields that follow one another -/

/-- Two fields held by the instruction and read one after the other are one longer field. -/
theorem skipBits_add {α : Type} (m n : Nat) (f : M α) (s : State) :
    (do skipBits m; skipBits n; f) s = (do skipBits (m + n); f) s := by
  by_cases hm : m ≤ s.stream.length
  · rw [bind_ok (skipBits_ok hm)]
    by_cases hn : m + n ≤ s.stream.length
    · rw [bind_ok (skipBits_next hn), bind_ok (skipBits_ok hn)]
    · have hlen : (s.skip m).stream.length = s.stream.length - m := by rw [stream_skip hm, List.length_drop]
      have hshort := skipBits_short (n := n) (s := s.skip m) (by omega)
      rw [hlen, ← skip_add, Nat.add_sub_cancel' hm] at hshort
      rw [bind_error hshort, bind_error (skipBits_short (by omega))]
  · rw [bind_error (skipBits_short (by omega)), bind_error (skipBits_short (by omega))]

/-- Bits of the byte already fetched are taken without a fetch (R122). -/
theorem skip_of_le_bitsLeft {n : Nat} {s : State} (h : n ≤ s.bitsLeft) :
    s.skip n = { s with bitsLeft := s.bitsLeft - n } := by
  induction n generalizing s with
  | zero => rfl
  | succ n ih =>
    have hl : s.loaded = s := if_neg (by omega)
    have hn : n ≤ s.bitTaken.bitsLeft := Nat.le_sub_of_add_le h
    rw [State.skip, hl, ih hn, State.bitTaken, Nat.sub_sub, Nat.add_comm 1 n]

/-! ### Sync and blocking (R171 to R173) -/

theorem syncAndBlocking_eq (blocking : Bool) (s : State) :
    syncAndBlocking blocking s =
      (do skipBits 16
          update fun s => { s with fh.blocking := blocking }
          goto .bsCode) s := by
  rw [syncAndBlocking, skipBits_add, skipBits_add]

theorem syncAndBlocking_ok {s : State} (blocking : Bool) (h : 16 ≤ s.stream.length) :
    syncAndBlocking blocking s = .ok () { s.skip 16 with fh.blocking := blocking, seq.pos := .bsCode } := by
  rw [syncAndBlocking_eq, bind_ok (skipBits_ok h), bind_ok (update_run _ _), goto_run]

theorem badReservedA_eq (s : State) : badReservedA s = (do skipBits 15; raise .invalidReservedBit 0 : M Unit) s := by
  rw [badReservedA, skipBits_add]

/-! ### Block-size and sample-rate codes (R174, R175) -/

theorem blockSizeCode_run {s : State} (k : Nat) (h : 4 ≤ s.stream.length) :
    blockSizeCode k s =
      (let t : State := { s.skip 4 with fh.bsCode := BitVec.ofNat 4 k }
       if k = 0 then .error .ended (errorEntry .invalidBlockSizeCode 0 0 t) else .ok () { t with seq.pos := .srCode }) := by
  rw [blockSizeCode, bind_ok (skipBits_ok h), bind_ok (update_run _ _), bind_run, raiseIf_run]
  by_cases hk : k = 0 <;> simp [hk]

theorem sampleRateCode_run {s : State} (k : Nat) (h : 4 ≤ s.stream.length) :
    sampleRateCode k s =
      (let t : State := { s.skip 4 with fh.srCode := BitVec.ofNat 4 k }
       if k = 15 then .error .ended (errorEntry .invalidSampleRateCode 0 0 t) else .ok () { t with seq.pos := .chCode }) := by
  rw [sampleRateCode, bind_ok (skipBits_ok h), bind_ok (update_run _ _), bind_run, raiseIf_run]
  by_cases hk : k = 15 <;> simp [hk]

theorem exec_of_bsCode {i : Instr} {k : Nat} (h : i.bsCode? = some k) (s : State) : exec i s = outcome (blockSizeCode k) s := by
  unfold Instr.bsCode? at h
  split at h <;> cases h <;> rfl

theorem exec_of_srCode {i : Instr} {k : Nat} (h : i.srCode? = some k) (s : State) : exec i s = outcome (sampleRateCode k) s := by
  unfold Instr.srCode? at h
  split at h <;> cases h <;> rfl

/-- Settles O34: the row's code is written, and one of the sixteen of each field refused. -/
theorem blockSizeAndRateCodes : Obligations.BlockSizeAndRateCodes := by
  refine fun i k s h => ⟨fun hi => ?_, fun hi => ?_⟩
  · rw [exec_of_bsCode hi, outcome, blockSizeCode_run k h]
    by_cases hk : k = 0
    · simp only [if_pos hk]
    · simp only [if_neg hk]
  · rw [exec_of_srCode hi, outcome, sampleRateCode_run k h]
    by_cases hk : k = 15
    · simp only [if_pos hk]
    · simp only [if_neg hk]

/-! ### Channel codes (R177) -/

/-- Everything CH_CODE does once its field is ahead. -/
theorem channelCode_run {s : State} (k : Nat) (h : 4 ≤ s.stream.length) :
    channelCode k s =
      (let t : State := { s.skip 4 with fh.chCode := BitVec.ofNat 4 k }
       match channelLayout k with
       | some (a, n) => .ok () { t with fh.assign := a, fh.channels := BitVec.ofNat 4 n, seq.pos := .bpsCode }
       | none => .error .ended (errorEntry .invalidChannelAssignment 0 0 t)) := by
  rw [channelCode, bind_ok (skipBits_ok h), bind_ok (update_run _ _)]
  generalize s.skip 4 = t
  rcases channelLayout k with _ | ⟨a, n⟩ <;> rfl

theorem channelLayout_independent {k : Nat} (h : k ≤ 7) : channelLayout k = some (.independent, k + 1) := if_pos h

theorem channelLayout_invalid {k : Nat} (h : 11 ≤ k) : channelLayout k = none := by
  unfold channelLayout
  rw [if_neg (by omega)]
  split
  case h_4 => rfl
  all_goals omega

theorem exec_of_chCode {i : Instr} {k : Nat} (h : i.chCode? = some k) (s : State) : exec i s = outcome (channelCode k) s := by
  unfold Instr.chCode? at h
  split at h <;> cases h <;> rfl

/-- Settles O35: the code's layout by the rule's table. -/
theorem channelCodes : Obligations.ChannelCodes := by
  intro i k s hi h
  dsimp only
  rw [exec_of_chCode hi, outcome, channelCode_run k h]
  by_cases h7 : k ≤ 7
  · simp only [channelLayout_independent h7, if_pos h7]
  · by_cases h11 : 11 ≤ k
    · simp only [channelLayout_invalid h11, if_neg h7, if_neg (show k ≠ 8 by omega), if_neg (show k ≠ 9 by omega),
        if_neg (show k ≠ 10 by omega)]
    · obtain rfl | rfl | rfl : k = 8 ∨ k = 9 ∨ k = 10 := by omega
      all_goals simp [channelLayout]

/-! ### Bits-per-sample codes (R178, R179) -/

/-- The depth of a code by the rule's table; the code 3 has none. -/
theorem sampleDepth_eq {k : Nat} (h : k < 8) (siBps : BitVec 6) :
    sampleDepth k siBps = if k = 3 then none else some (depthOf k siBps) := by
  interval_cases k <;> rfl

/-- The depth code and its depth written. -/
def State.withDepth (s : State) (code : BitVec 3) (depth : BitVec 6) : State :=
  { s with fh.bpsCode := code, fh.bps := depth }

theorem skip_withDepth (n : Nat) (code : BitVec 3) (depth : BitVec 6) (s : State) :
    (s.withDepth code depth).skip n = (s.skip n).withDepth code depth := by
  simp only [State.withDepth, skip_with_fh, skip_fh]

@[simp] theorem withDepth_stream (s : State) (code : BitVec 3) (depth : BitVec 6) :
    (s.withDepth code depth).stream = s.stream := rfl

/-- Everything BPS_CODE does once its three bits are read (R178). -/
theorem depthCode_run {k : Nat} {s t : State} (hk : k < 8) (h : skipBits 3 s = .ok () t) :
    depthCode k s =
      if k = 3 then .error .ended (errorEntry .invalidBpsCode 0 0 { t with fh.bpsCode := BitVec.ofNat 3 k })
      else .ok () (t.withDepth (BitVec.ofNat 3 k) (BitVec.ofNat 6 (depthOf k t.si.bps))) := by
  rw [depthCode, bind_ok h, bind_ok (update_run _ _), bind_ok (ask_run _ _)]
  simp only [sampleDepth_eq hk]
  by_cases h3 : k = 3
  · simp only [if_pos h3, raise_run]
  · simp only [if_neg h3, update_run, State.withDepth]

/-- What follows BPS_CODE and the reserved bit after it (R179): NUMBER, or the refusal of a 1. -/
def afterReservedB (reserved : Bool) : M Unit := if reserved then raise .invalidReservedBit 1 else goto .number

/-- A row of a depth code and a reserved bit is the code, the bit, and what the bit says. -/
theorem exec_of_bpsCode {i : Instr} {k : Nat} {reserved : Bool} (h : i.bpsCode? = some (k, reserved)) :
    k < 8 ∧ ∀ s, exec i s = outcome (do depthCode k; skipBits 1; afterReservedB reserved) s := by
  unfold Instr.bpsCode? at h
  split at h
  case h_9 bps =>
    cases h
    exact ⟨bps.isLt, fun _ => rfl⟩
  case h_10 => cases h
  all_goals
    cases h
    exact ⟨by decide, fun _ => rfl⟩

/-- Settles O36: the depth code by its table, then the reserved bit; each cut short where its bits end. -/
theorem depthCodes : Obligations.DepthCodes := by
  intro i k reserved s hi
  obtain ⟨hk, hexec⟩ := exec_of_bpsCode hi
  have hcode (h : 3 ≤ s.stream.length) : depthCode k s = _ := depthCode_run hk (skipBits_ok h)
  have hdepth : depthOf k (s.skip 3).si.bps = depthOf k s.si.bps := by rw [skip_si]
  rw [hdepth] at hcode
  refine ⟨fun h3 h => ?_, fun h3 h => ?_, fun h4 => ?_, fun h => ?_, fun h3 h => ?_⟩
  · exact (hexec s).trans (outcome_ended (bind_error ((hcode h).trans (if_pos h3))))
  · have hbit := skipBits_next (m := 3) (n := 1) (s := s.withDepth (BitVec.ofNat 3 k) (BitVec.ofNat 6 (depthOf k s.si.bps))) h
    rw [skip_withDepth, skip_withDepth] at hbit
    rw [hexec, outcome, bind_ok ((hcode (Nat.le_of_succ_le h)).trans (if_neg h3)), bind_ok hbit]
    cases reserved <;> rfl
  · have hskip := skip_of_le_bitsLeft h4.ge
    simp only [hskip, h4, Nat.sub_self]
  · exact (hexec s).trans (outcome_ended (bind_error (bind_error (skipBits_short h))))
  · have hnone := skipBits_short (n := 1)
      (s := (s.skip 3).withDepth (BitVec.ofNat 3 k) (BitVec.ofNat 6 (depthOf k s.si.bps)))
    rw [withDepth_stream, stream_skip h.ge, List.length_drop, h] at hnone
    rw [hexec, outcome_ended ((bind_ok ((hcode h.ge).trans (if_neg h3))).trans (bind_error (hnone Nat.one_pos)))]
    rfl

/-! ### The trailing fields (R176, R181, R182) -/

theorem fixedRate_eq {code : Nat} (h : code < 12) (siRate : BitVec 20) : fixedRate code siRate = some (rateOf code siRate) := by
  interval_cases code <;> rfl

theorem fixedBlockSize_eq :
    ∀ code : BitVec 4, code ≠ 0 → code ≠ 6 → code ≠ 7 → fixedBlockSize code.toNat = some (blockSizeOf code.toNat) := by
  decide

/-- TRAILING from the sample rate on, for every code R175 lets pass. -/
theorem resolveRate_ok {s : State} (h : s.fh.srCode ≠ 15) : resolveRate s = .ok () s.afterBlockSize := by
  rw [resolveRate, bind_ok (ask_run _ _), bind_ok (ask_run _ _), State.afterBlockSize]
  by_cases h12 : s.fh.srCode = 12
  · simp only [if_pos h12, goto_run]
  by_cases h13 : s.fh.srCode = 13
  · simp only [if_neg h12, if_pos h13, goto_run]
  by_cases h14 : s.fh.srCode = 14
  · simp only [if_neg h12, if_neg h13, if_pos h14, goto_run]
  · have hcode : s.fh.srCode.toNat < 12 := by bv_omega
    simp only [if_neg h12, if_neg h13, if_neg h14, fixedRate_eq hcode, bind_run, update_run, goto_run]

/-- TRAILING, for every code R174 and R175 let pass. -/
theorem resolveBlockSize_ok {s : State} (hbs : s.fh.bsCode ≠ 0) (hsr : s.fh.srCode ≠ 15) :
    resolveBlockSize s = .ok () s.afterNumber := by
  rw [resolveBlockSize, bind_ok (ask_run _ _), State.afterNumber]
  by_cases h6 : s.fh.bsCode = 6
  · simp only [if_pos h6, goto_run]
  by_cases h7 : s.fh.bsCode = 7
  · simp only [if_neg h6, if_pos h7, goto_run]
  · simp only [if_neg h6, if_neg h7, fixedBlockSize_eq _ hbs h6 h7, bind_run, update_run]
    exact resolveRate_ok hsr

theorem trailingBlockSize_ok {bits : Nat} {s : State} (t : Nat) (hsr : s.fh.srCode ≠ 15) (h : bits ≤ s.stream.length) :
    trailingBlockSize bits t s =
      .ok () ({ s.skip bits with fh.blockSize := BitVec.ofNat 17 (t + 1) } : State).afterBlockSize := by
  rw [trailingBlockSize, bind_ok (skipBits_ok h), bind_ok (update_run _ _)]
  exact resolveRate_ok (by simpa using hsr)

theorem trailingRate_ok {bits : Nat} {s : State} (t unit : Nat) (h : bits ≤ s.stream.length) :
    trailingRate bits t unit s = .ok () { s.skip bits with fh.rate := BitVec.ofNat 20 (t * unit), seq.pos := .crc8 } := by
  rw [trailingRate, bind_ok (skipBits_ok h), bind_ok (update_run _ _), goto_run]

/-- Settles O39: TRAILING by its two tables, and each trailing field. -/
theorem trailingFields : Obligations.TrailingFields := by
  refine fun s => ⟨resolveBlockSize_ok, fun t hsr h => outcome_ok (trailingBlockSize_ok _ hsr h),
    fun t hsr h => outcome_ok (trailingBlockSize_ok _ hsr h), fun t h => outcome_ok (trailingRate_ok _ _ h),
    fun t h => ⟨?_, outcome_ok (trailingRate_ok _ _ h)⟩⟩
  have hrun := trailingRate_ok t.toNat 1 h
  rw [Nat.mul_one] at hrun
  exact outcome_ok hrun

/-! ### The header's checksum (R183, R184) -/

/-- Everything BLOCK_SIZE_LIMIT does (R184). -/
theorem blockSizeLimit_run (s : State) :
    blockSizeLimit s =
      (let n := s.fh.blockSize.toNat
       if (s.cfg.blockSizeCheck = .max ∨ s.cfg.blockSizeCheck = .minMax) ∧ s.si.maxBlock.toNat < n then
         .error .ended (errorEntry .invalidBlockSize 0 0 s)
       else if s.cfg.blockSizeCheck = .minMax ∧ n < s.si.minBlock.toNat then
         .error .ended (errorEntry .invalidBlockSize 1 0 s)
       else .ok () s) := by
  rw [blockSizeLimit, bind_ok (ask_run _ _)]
  cases s.cfg.blockSizeCheck with
  | off => simp [blockSizeFault]
  | max => by_cases hmax : s.si.maxBlock.toNat < s.fh.blockSize.toNat <;> simp [blockSizeFault, hmax]
  | minMax =>
    by_cases hmax : s.si.maxBlock.toNat < s.fh.blockSize.toNat
    · simp [blockSizeFault, hmax]
    · by_cases hmin : s.fh.blockSize.toNat < s.si.minBlock.toNat <;> simp [blockSizeFault, hmax, hmin]

/-- An accumulator that is off is left as it is by a move of the cursor (R129). -/
theorem crc8_skip_of_off {s : State} (h : s.crc8En = false) (n : Nat) : (s.skip n).crc8 = s.crc8 :=
  (cursorFrame n s).2.1 h

/-- Everything HEADER_CRC does once its byte is read, the accumulator stopped before it (R129, R183). -/
theorem headerCrc_run {s t : State} (crc : BitVec 8) (h : skipBits 8 { s with crc8En := false } = .ok () t) :
    headerCrc crc s =
      (let u : State := { t with fh.crc8 := crc }
       if crc ≠ t.crc8 then .error .ended (errorEntry .invalidChecksum 0 0 u) else (do blockSizeLimit; startChannel 0) u) := by
  rw [headerCrc, crc8Stop, bind_ok (update_run _ _), bind_ok h, bind_ok (update_run _ _), bind_ok (ask_run _ _), bind_run,
    raiseIf_run]
  by_cases hc : crc = t.crc8 <;> simp [hc]

/-- Settles O40: the checksum before the bounds, the bounds before the first subframe. -/
theorem headerChecksum : Obligations.HeaderChecksum := by
  intro crc s
  have hexec : exec (.crc8 crc) s = outcome (headerCrc crc) s := rfl
  refine ⟨fun h => ?_, fun h hch => ?_⟩
  · have hshort : headerCrc crc s = _ := (bind_ok (update_run _ s)).trans (bind_error (skipBits_short h))
    exact outcome_ended hshort
  · have hread : skipBits 8 { s with crc8En := false } = _ := skipBits_ok h
    have hcrc : (({ s with crc8En := false } : State).skip 8).crc8 = s.crc8 := crc8_skip_of_off rfl 8
    have hcfg := skip_cfg 8 { s with crc8En := false }
    have hsi := skip_si 8 { s with crc8En := false }
    have hfh := skip_fh 8 { s with crc8En := false }
    generalize ({ s with crc8En := false } : State).skip 8 = t at *
    dsimp only at *
    rw [← hfh] at hch
    have hnext : startChannel 0 { t with fh.crc8 := crc } = _ := startChannel_next (show 0 < t.fh.channels.toNat by bv_omega)
    rw [hexec, outcome, headerCrc_run crc hread, ← hcrc, ← hcfg, ← hsi, ← hfh]
    dsimp only
    rw [bind_run, blockSizeLimit_run]
    dsimp only
    split_ifs <;> simp only [hnext]

end Sys2Proof.Machine

namespace Sys2Proof

open Machine

/-- Settles O33: each row is one field of 16, 15 or 14 bits, cut short or not. -/
theorem syncAndBlocking : Obligations.SyncAndBlocking := by
  refine fun s => ⟨fun h => ⟨outcome_ok (syncAndBlocking_ok false h), outcome_ok (syncAndBlocking_ok true h)⟩, fun h => ?_,
    fun h sync => ?_, ?_⟩
  · exact outcome_ended (by rw [badReservedA_eq, bind_ok (skipBits_ok h), raise_run])
  · exact outcome_ended (by rw [badSync, bind_ok (skipBits_ok h), raise_run])
  · rintro i (⟨sync, rfl, h⟩ | ⟨rfl, h⟩ | ⟨rfl | rfl, h⟩)
    · exact outcome_ended (bind_error (skipBits_short h))
    · exact outcome_ended ((badReservedA_eq s).trans (bind_error (skipBits_short h)))
    · exact outcome_ended ((syncAndBlocking_eq false s).trans (bind_error (skipBits_short h)))
    · exact outcome_ended ((syncAndBlocking_eq true s).trans (bind_error (skipBits_short h)))

end Sys2Proof

/-!
Rows of a sample RAM (R32, R33): what a run of writes along a row leaves, and the loops over a row that read, shift and commit
its samples (R206, R217, R258).
-/

namespace Sys2Proof.Machine

/-! ### A row written -/

/-- From `before` to `after` row c has been written with f at the indexes lo to hi - 1, and no other entry changed. -/
structure RowWritten (before after : SampleRam) (c lo hi : Nat) (f : Nat → Int) : Prop where
  holds : after.Holds c lo hi f
  sameBut : before.SameBut after c lo hi

theorem sampleKey_ne_of_index {c i j : Nat} (h : i ≠ j) : sampleKey c i ≠ sampleKey c j := by
  simp only [sampleKey]
  omega

namespace RowWritten

variable {before after : SampleRam} {c lo hi : Nat} {f : Nat → Int}

theorem refl (ram : SampleRam) (c i : Nat) (f : Nat → Int) : RowWritten ram ram c i i f where
  holds := fun _ hj hij => absurd hj (Nat.not_lt.mpr hij)
  sameBut := fun _ _ => rfl

/-- The first entry is written, then the row from the next one on. -/
theorem cons (hlt : lo < hi) (h : RowWritten (before.write (sampleKey c lo) (f lo)) after c (lo + 1) hi f) :
    RowWritten before after c lo hi f where
  holds := fun j hj hlo => by
    obtain rfl | hlo := Nat.eq_or_lt_of_le hlo
    · rw [h.sameBut _ fun j _ hj => sampleKey_ne_of_index (Nat.ne_of_lt hj), read_write_same]
    · exact h.holds j hj hlo
  sameBut := fun key hkey => by
    rw [h.sameBut key fun j hj hlo => hkey j hj (Nat.le_of_succ_le hlo), read_write_other (hkey lo hlt le_rfl)]

/-- The row is written up to an entry, then that entry. -/
theorem snoc (hle : lo ≤ hi) (h : RowWritten before after c lo hi f) :
    RowWritten before (after.write (sampleKey c hi) (f hi)) c lo (hi + 1) f where
  holds := fun j hj hlo => by
    obtain hj | rfl := Nat.lt_succ_iff_lt_or_eq.mp hj
    · rw [read_write_other (sampleKey_ne_of_index (Nat.ne_of_lt hj)), h.holds j hj hlo]
    · exact read_write_same _ _ _
  sameBut := fun key hkey => by
    rw [read_write_other (hkey hi (Nat.lt_succ_self hi) hle),
      h.sameBut key fun j hj hlo => hkey j (Nat.lt_succ_of_lt hj) hlo]

theorem congr {g : Nat → Int} (h : RowWritten before after c lo hi f)
    (hfg : ∀ i, lo ≤ i → i < hi → f i = g i) : RowWritten before after c lo hi g where
  holds := fun i hi' hlo => by rw [h.holds i hi' hlo, hfg i hlo hi']
  sameBut := h.sameBut

/-- A row written twice holds what was written last. -/
theorem trans {later : SampleRam} {g : Nat → Int} (h : RowWritten before after c lo hi g)
    (h' : RowWritten after later c lo hi f) : RowWritten before later c lo hi f where
  holds := h'.holds
  sameBut := fun key hkey => (h'.sameBut key hkey).trans (h.sameBut key hkey)

/-- The other rows hold what they held. -/
theorem holds_other {d n : Nat} {g : Nat → Int} (h : RowWritten before after c lo hi f) (hd : d ≠ c) (hn : n ≤ topBlock)
    (hhi : hi ≤ topBlock) (held : before.Holds d 0 n g) : after.Holds d 0 n g := fun i hi' hlo => by
  rw [h.sameBut _ fun j hj _ heq => hd (sampleKey_inj (by omega) (by omega) heq).1, held i hi' hlo]

end RowWritten

/-! ### The loops over a row -/

/-- What the current frame has written of `SUB`. -/
def State.withSub (s : State) (sub : SampleRam) : State := { s with sub := sub }

theorem skip_withSub (n : Nat) (sub : SampleRam) (s : State) : (s.withSub sub).skip n = (s.skip n).withSub sub :=
  skip_with_sub n sub s

@[simp] theorem withSub_withSub (s : State) (sub sub' : SampleRam) : (s.withSub sub).withSub sub' = s.withSub sub' := rfl

@[simp] theorem withSub_cfg (s : State) (sub : SampleRam) : (s.withSub sub).cfg = s.cfg := rfl

@[simp] theorem withSub_fh (s : State) (sub : SampleRam) : (s.withSub sub).fh = s.fh := rfl

@[simp] theorem withSub_sf (s : State) (sub : SampleRam) : (s.withSub sub).sf = s.sf := rfl

@[simp] theorem withSub_sub (s : State) (sub : SampleRam) : (s.withSub sub).sub = sub := rfl

theorem readSample_ok {c i : Nat} {v : Int} {s : State} (hc : c < s.cfg.maxChannels.val) (hi : i < s.cfg.maxBlock.val)
    (h : SampleRam.read (sampleKey c i) s.sub = some v) : readSample c i s = .ok v s := by
  rw [readSample_run, if_pos (sampleExists_iff.mpr ⟨hc, hi⟩), h]

theorem writeSample_ok {c i : Nat} (v : Int) {s : State} (hc : c < s.cfg.maxChannels.val) (hi : i < s.cfg.maxBlock.val) :
    writeSample c i v s = .ok () (s.withSub (SampleRam.write (sampleKey c i) v s.sub)) := by
  rw [writeSample_run, if_pos (sampleExists_iff.mpr ⟨hc, hi⟩), State.withSub]

theorem writeOut_ok {c i : Nat} (v : Int) {s : State} (hc : c < s.cfg.maxChannels.val) (hi : i < s.cfg.maxBlock.val) :
    writeOut c i v s = .ok () { s with out := SampleRam.write (sampleKey c i) v s.out } := by
  rw [writeOut_run, if_pos (sampleExists_iff.mpr ⟨hc, hi⟩)]

theorem signedBits_length (n : Nat) (v : Int) : (signedBits n v).length = n := natToBits_length _ _

/-- The value at index i of a row whose values from index lo on are `vs`. -/
def rowFrom (lo : Nat) (vs : List Int) (i : Nat) : Int := vs.getD (i - lo) 0

theorem rowFrom_succ {lo i : Nat} (v : Int) (vs : List Int) (h : lo < i) : rowFrom lo (v :: vs) i = rowFrom (lo + 1) vs i := by
  obtain ⟨k, rfl⟩ := Nat.exists_eq_add_of_lt h
  simp only [rowFrom]
  rw [show lo + k + 1 - lo = k + 1 by omega, show lo + k + 1 - (lo + 1) = k by omega, List.getD_cons_succ]

/-- Two's complement fields ahead are read into a row (R124, R206). -/
theorem readSamples_ok {c w i : Nat} {vs : List Int} {rest : Bits} {s : State} (hc : c < s.cfg.maxChannels.val)
    (hi : i + vs.length ≤ s.cfg.maxBlock.val) (hfits : ∀ v ∈ vs, fits w v = true)
    (h : s.stream = vs.flatMap (signedBits w) ++ rest) :
    ∃ sub, readSamples c (readS w) i vs.length s = .ok () ((s.skip (vs.length * w)).withSub sub) ∧
      RowWritten s.sub sub c i (i + vs.length) (rowFrom i vs) := by
  induction vs generalizing i s with
  | nil =>
    refine ⟨s.sub, ?_, .refl _ _ _ _⟩
    rw [List.length_nil, Nat.zero_mul]
    rfl
  | cons v vs ih =>
    rw [List.flatMap_cons, List.append_assoc] at h
    rw [List.length_cons] at hi ⊢
    obtain ⟨hfit, hrest⟩ := List.forall_mem_cons.mp hfits
    obtain ⟨hread, hahead⟩ := (readSignedField).2 w v _ s hfit h
    have hwrite := writeSample_ok (c := c) (i := i) v (s := s.skip w) (by rwa [skip_cfg]) (by rw [skip_cfg]; omega)
    rw [skip_sub] at hwrite
    obtain ⟨sub, hrun, hrow⟩ := ih (i := i + 1) (s := (s.skip w).withSub (SampleRam.write (sampleKey c i) v s.sub))
      (by simpa using hc) (by simp; omega) hrest hahead
    refine ⟨sub, ?_, .cons (by omega) ?_⟩
    · rw [readSamples, bind_ok hread, bind_ok hwrite, hrun, skip_withSub, withSub_withSub, ← skip_add, Nat.succ_mul,
        Nat.add_comm w]
    · rw [show i + (vs.length + 1) = i + 1 + vs.length by omega]
      have hfirst : rowFrom i (v :: vs) i = v := by simp [rowFrom]
      rw [hfirst]
      exact hrow.congr fun j hlo _ => (rowFrom_succ v vs hlo).symm

/-- WASTED_SHIFT of a row that holds f (R217). -/
theorem wastedShift_ok {c n : Nat} (k : Nat) {f : Nat → Int} {s : State} (hc : c < s.cfg.maxChannels.val)
    (hn : n ≤ s.cfg.maxBlock.val) (held : s.sub.Holds c 0 n f) :
    ∃ sub, wastedShift c n k s = .ok () (s.withSub sub) ∧ RowWritten s.sub sub c 0 n fun i => f i * 2 ^ k := by
  obtain ⟨t, ht, sub, rfl, hrow⟩ : ∃ t, wastedShift c n k s = .ok () t ∧
      ∃ sub, t = s.withSub sub ∧ RowWritten s.sub sub c 0 (0 + n) fun i => f i * 2 ^ k := by
    refine forRange_ok (P := fun i t => ∃ sub, t = s.withSub sub ∧ RowWritten s.sub sub c 0 i fun i => f i * 2 ^ k) ?_
      ⟨s.sub, rfl, .refl _ _ _ _⟩
    rintro i t - hi ⟨sub, rfl, hrow⟩
    have hsame : SampleRam.read (sampleKey c i) sub = some (f i) := by
      rw [hrow.sameBut _ fun j hj _ => sampleKey_ne_of_index (Nat.ne_of_gt hj), held i (by omega) (Nat.zero_le i)]
    have hi : i < s.cfg.maxBlock.val := by omega
    have hread := readSample_ok (s := s.withSub sub) hc hi hsame
    exact ⟨_, (bind_ok hread).trans (writeSample_ok _ hc hi), _, rfl, hrow.snoc (Nat.zero_le i)⟩
  rw [Nat.zero_add] at hrow
  exact ⟨sub, ht, hrow⟩

/-- Copying a row of `SUB` that holds f to `OUT` (R258). -/
theorem commitRow_ok {c n i : Nat} {f : Nat → Int} {s : State} (hc : c < s.cfg.maxChannels.val)
    (hn : i + n ≤ s.cfg.maxBlock.val) (held : s.sub.Holds c i (i + n) f) :
    ∃ out, commitRow c i n s = .ok ((List.range' i n).map f) { s with out := out } ∧ RowWritten s.out out c i (i + n) f := by
  induction n generalizing i s with
  | zero => exact ⟨s.out, rfl, .refl _ _ _ _⟩
  | succ n ih =>
    have hread := readSample_ok hc (show i < s.cfg.maxBlock.val by omega) (held i (by omega) le_rfl)
    have hwrite := writeOut_ok (f i) hc (show i < s.cfg.maxBlock.val by omega)
    rw [show i + (n + 1) = i + 1 + n by omega] at hn held ⊢
    obtain ⟨out, hrun, hrow⟩ := ih (i := i + 1) (s := { s with out := SampleRam.write (sampleKey c i) (f i) s.out }) hc hn
      fun j hj hlo => held j hj (Nat.le_of_succ_le hlo)
    refine ⟨out, ?_, .cons (by omega) hrow⟩
    rw [commitRow, bind_ok hread, bind_ok hwrite, bind_ok hrun]
    rfl

/-- Copying rows of `SUB` that hold f to `OUT` (R258). -/
theorem commitRows_ok {n c k : Nat} {f : Nat → Nat → Int} {s : State} (hc : c + k ≤ s.cfg.maxChannels.val)
    (hn : n ≤ s.cfg.maxBlock.val) (held : ∀ d, c ≤ d → d < c + k → s.sub.Holds d 0 n (f d)) :
    ∃ out, commitRows n c k s = .ok ((List.range' c k).map fun d => (List.range n).map (f d)) { s with out := out } ∧
      (∀ d, c ≤ d → d < c + k → SampleRam.Holds out d 0 n (f d)) ∧
      ∀ key, (∀ d, c ≤ d → d < c + k → ∀ i < n, key ≠ sampleKey d i) →
        SampleRam.read key out = SampleRam.read key s.out := by
  induction k generalizing c s with
  | zero => exact ⟨s.out, rfl, fun d h h' => absurd h' (Nat.not_lt.mpr h), fun _ _ => rfl⟩
  | succ k ih =>
    have htop : n ≤ topBlock := by have := s.cfg.maxBlock.isLt; simp only [topBlock]; omega
    obtain ⟨first, hfirst, hrow⟩ := commitRow_ok (n := n) (i := 0) (show c < s.cfg.maxChannels.val by omega)
      (by omega) (by rw [Nat.zero_add]; exact held c le_rfl (by omega))
    rw [Nat.zero_add] at hrow
    rw [show c + (k + 1) = c + 1 + k by omega] at hc held ⊢
    obtain ⟨out, hrun, hholds, hsame⟩ := ih (c := c + 1) (s := { s with out := first }) hc hn
      fun d hd hd' => held d (Nat.le_of_succ_le hd) hd'
    refine ⟨out, ?_, fun d hd hd' => ?_, fun key hkey => ?_⟩
    · rw [commitRows, bind_ok hfirst, bind_ok hrun, List.range_eq_range']
      rfl
    · obtain rfl | hd := Nat.eq_or_lt_of_le hd
      · intro i hi hlo
        rw [hsame _ fun e he _ j hj heq => absurd (sampleKey_inj (by omega) (by omega) heq).1 (Nat.ne_of_lt he),
          hrow.holds i hi hlo]
      · exact hholds d hd hd'
    · rw [hsame key fun d hd hd' => hkey d (Nat.le_of_succ_le hd) hd',
        hrow.sameBut key fun i hi _ => hkey c le_rfl (by omega) i hi]

end Sys2Proof.Machine

/-!
The elements of a frame as they stand on the wire: the sequencer reads back each element that is ahead (R80 to R101), and what
the stream ahead says about byte boundaries (R126, R127).
-/

namespace Sys2Proof.Machine

/-! ### Elements read back -/

/-- The decoder reads the element back from its encoding, whatever follows, with `align` bits left of the byte at the cursor. -/
def ReadsBack (i : Instr) (align : Nat) : Prop :=
  ∀ more : Bits, decode i.position align (i.encode ++ more) = .ok (i, more)

section ReadsBack

variable (align : Nat)

theorem readsBack_fhBlocking0 : ReadsBack .fhBlocking0 align := fun more => by
  have hbits : Instr.fhBlocking0.encode = natToBits 14 syncCode ++ (natToBits 1 0 ++ natToBits 1 0) := rfl
  rw [hbits, List.append_assoc, List.append_assoc, Instr.position, decode, field_natToBits_bind (by decide)]
  dsimp only
  rw [if_neg (by decide), field_natToBits_bind (by decide)]
  dsimp only
  rw [if_neg (by decide), field_natToBits_bind (by decide)]
  rfl

theorem readsBack_fhBs7 : ReadsBack .fhBs7 align := fun _ => field_natToBits_bind (by decide) _ _

theorem readsBack_fhSr0 : ReadsBack .fhSr0 align := fun _ => field_natToBits_bind (by decide) _ _

theorem encode_chCodeOf {k : Nat} (hk : k < 16) : (chCodeOf k).encode = natToBits 4 k := by interval_cases k <;> rfl

theorem chCode?_chCodeOf {k : Nat} (hk : k < 16) : (chCodeOf k).chCode? = some k := by interval_cases k <;> rfl

theorem readsBack_chCodeOf {k : Nat} (hk : k < 16) : ReadsBack (chCodeOf k) align := fun more => by
  rw [encode_chCodeOf hk, position_chCodeOf, decode, field_natToBits_bind hk]

theorem readsBack_fhBps0 : ReadsBack .fhBps0 align := fun more => by
  have hbits : Instr.fhBps0.encode = natToBits 3 0 ++ natToBits 1 0 := rfl
  rw [hbits, List.append_assoc, Instr.position, decode, field_natToBits_bind (by decide)]
  dsimp only
  rw [field_natToBits_bind (by decide)]
  rfl

theorem readsBack_numLead00 (x : BitVec 7) : ReadsBack (.numLead00 x) align := fun more => by
  have hx := x.isLt
  rw [Instr.encode, Nat.zero_add, Instr.position, decode, field_natToBits_bind (by omega)]
  simp only [numberLeadOf, if_pos hx, BitVec.ofNat_toNat, BitVec.setWidth_eq]

theorem readsBack_bs16 (t : BitVec 16) : ReadsBack (.bs16 t) align := fun more => by
  rw [Instr.encode, Instr.position, decode, field_natToBits_bind t.isLt]
  simp only [BitVec.ofNat_toNat, BitVec.setWidth_eq]

theorem readsBack_crc8 (crc : BitVec 8) : ReadsBack (.crc8 crc) align := fun more => by
  rw [Instr.encode, Instr.position, decode, field_natToBits_bind crc.isLt]
  simp only [BitVec.ofNat_toNat, BitVec.setWidth_eq]

theorem readsBack_sfVerbatim : ReadsBack (.sfVerbatim false) align := fun more => by
  have hbits : (Instr.sfVerbatim false).encode = natToBits 1 0 ++ (natToBits 6 1 ++ natToBits 1 0) := rfl
  rw [hbits, List.append_assoc, List.append_assoc, Instr.position, decode, field_natToBits_bind (by decide)]
  dsimp only
  rw [if_neg (by decide), field_natToBits_bind (by decide)]
  exact field_natToBits_bind (by decide) _ _

theorem readsBack_pad (bits : Bits) : ReadsBack (.pad bits) bits.length := fun more => by
  rw [Instr.encode, Instr.position, decode, if_pos (by rw [List.length_append]; omega), List.take_left, List.drop_left]

theorem readsBack_crc16 (crc : BitVec 16) : ReadsBack (.crc16 crc) align := fun more => by
  rw [Instr.encode, Instr.position, decode, field_natToBits_bind crc.isLt]
  simp only [BitVec.ofNat_toNat, BitVec.setWidth_eq]

end ReadsBack

/-- What the stream begins with, up to 32 bits, the sequencer's look begins with. -/
theorem upcoming_of_prefix {bits rest : Bits} {s : State} (hlen : bits.length ≤ 32) (h : s.stream = bits ++ rest) :
    ∃ more, upcoming s = bits ++ more := by
  have hbits : bits <+: s.stream.take 32 := List.prefix_take_iff.mpr ⟨⟨rest, h.symm⟩, hlen⟩
  have hanswers : answerBits (s.src.take 4) = (answerBits s.src).take 32 := answerBits_take 4 s.src
  rw [State.stream, ← take_append_take, ← hanswers] at hbits
  have hlook := (hbits.trans (List.take_prefix _ _)).trans (List.prefix_append _ (List.replicate 32 false))
  obtain ⟨more, hmore⟩ := List.prefix_take_iff.mpr ⟨hlook, hlen⟩
  exact ⟨more, hmore.symm⟩

/-- An element of the sequencer's position that is ahead is the step's element. -/
theorem elementStep_of_ahead {i : Instr} {rest : Bits} {s : State} (hback : ReadsBack i s.bitsLeft) (hp : i.position = s.seq.pos)
    (hhost : i.position ≠ .host) (hlen : i.encode.length ≤ 32) (h : s.stream = i.encode ++ rest) :
    elementStep s = exec i s := by
  obtain ⟨more, hmore⟩ := upcoming_of_prefix hlen h
  have hdecode : decodeHere s = .ok (i, more) := by rw [decodeHere, hmore, ← hp, hback]
  rw [elementStep_of_decode hdecode, exec_eq_runElement i hhost]

/-! ### Byte boundaries -/

/-- The bits of the answers to come are whole bytes. -/
theorem answerBits_length_mod (src : List SrcAnswer) : (answerBits src).length % 8 = 0 := by
  match src with
  | [] => rfl
  | .ioErr _ :: _ => rfl
  | .byte b :: rest =>
    have := answerBits_length_mod rest
    rw [answerBits_byte, List.length_append, natToBits_length]
    omega

/-- The bits left of the byte at the cursor are those by which the stream passes a byte boundary. -/
theorem bitsLeft_eq_of_stream {s : State} (h : s.bitsLeft < 8) : s.bitsLeft = s.stream.length % 8 := by
  have := answerBits_length_mod s.src
  rw [State.stream, List.length_append, natToBits_length]
  omega

/-- A byte has 8 bits, also where FETCH has just brought it. -/
theorem loaded_bitsLeft_le {s : State} (h : s.bitsLeft ≤ 8) : s.loaded.bitsLeft ≤ 8 := by
  unfold State.loaded
  split
  · split
    · exact le_rfl
    all_goals exact h
  · exact h

/-- Once the byte at the cursor has a bit taken, every later one has when a move ends. -/
theorem bitsLeft_skip_lt {s : State} (h : s.bitsLeft < 8) (n : Nat) : (s.skip n).bitsLeft < 8 := by
  cases n with
  | zero => exact h
  | succ n =>
    have hloaded := loaded_bitsLeft_le (skip_bitsLeft_le h.le n)
    have hlast : (s.skip (n + 1)).bitsLeft = (s.skip n).loaded.bitsLeft - 1 := by rw [skip_add]; rfl
    omega

/-- After whole bytes from an aligned cursor the cursor is aligned. -/
theorem bitsLeft_skip_eq {n : Nat} {rest : Bits} {s : State} (h0 : s.bitsLeft = 0) (h : (s.skip n).stream = rest) :
    (s.skip n).bitsLeft = rest.length % 8 := by
  rw [bitsLeft_eq_of_stream (bitsLeft_skip_lt (h0 ▸ Nat.zero_lt_succ 7) n), h]

/-- Whole bytes ahead of an aligned cursor, moved over: the rest is to come, the cursor aligned again. -/
theorem skip_bytes_rest {bytes : List Byte} {rest : List SrcAnswer} {s : State} (h0 : s.bitsLeft = 0)
    (h : s.src = bytes.map .byte ++ rest) :
    (s.skip (8 * bytes.length)).src = rest ∧ (s.skip (8 * bytes.length)).bitsLeft = 0 := by
  have hstream : s.stream = bytes.flatMap byteToBits ++ answerBits rest := by
    rw [State.stream, h0, h, answerBits_bytes, natToBits_zero, List.nil_append]
  have hrest := stream_skip_of_ahead hstream (flatMap_byteToBits_length bytes)
  refine ⟨(List.append_cancel_left (h.symm.trans (skip_bytes h0 h).src)).symm, ?_⟩
  rw [bitsLeft_skip_eq h0 hrest, answerBits_length_mod]

end Sys2Proof.Machine

/-!
PULL of a frame of independent VERBATIM channels (R275), from the sync code to the commit: each element in turn, the cursor moved
over its bits, and the registers it writes.
-/

namespace Sys2Proof.Machine

/-! ### States of a frame being read -/

/-- The registers a frame's elements write before the commit, its rows of `SUB`, and the position of the next element. -/
def State.withFrame (t : State) (fh : FrameHeader) (sf : Subframe) (sub : SampleRam) (p : Position) : State :=
  { t with fh := fh, sf := sf, sub := sub, seq.pos := p }

section WithFrame

variable (t : State) (fh : FrameHeader) (sf : Subframe) (sub : SampleRam) (p : Position)

theorem skip_withFrame (n : Nat) : (t.withFrame fh sf sub p).skip n = (t.skip n).withFrame fh sf sub p := by
  have hfh := skip_with_fh n fh t
  have hsf := skip_with_sf n sf { t with fh := fh }
  have hsub := skip_with_sub n sub { t with fh := fh, sf := sf }
  have hseq := skip_with_seq n { t.seq with pos := p } { t with fh := fh, sf := sf, sub := sub }
  rw [hsub, hsf, hfh] at hseq
  exact hseq.trans (by rw [State.withFrame, skip_seq])

@[simp] theorem withFrame_stream : (t.withFrame fh sf sub p).stream = t.stream := rfl

@[simp] theorem withFrame_bitsLeft : (t.withFrame fh sf sub p).bitsLeft = t.bitsLeft := rfl

@[simp] theorem withFrame_cfg : (t.withFrame fh sf sub p).cfg = t.cfg := rfl

@[simp] theorem withFrame_si : (t.withFrame fh sf sub p).si = t.si := rfl

@[simp] theorem withFrame_fh : (t.withFrame fh sf sub p).fh = fh := rfl

@[simp] theorem withFrame_sf : (t.withFrame fh sf sub p).sf = sf := rfl

@[simp] theorem withFrame_sub : (t.withFrame fh sf sub p).sub = sub := rfl

@[simp] theorem withFrame_pos : (t.withFrame fh sf sub p).seq.pos = p := rfl

end WithFrame

/-! ### The header -/

/-- With these bits ahead, j elements of the frame header take the run over them, the fields written as said. -/
def HeaderTakes (si : StreamInfo) (bits : Bits) (j : Nat) (fh : FrameHeader) (p : Position) (fh' : FrameHeader) (p' : Position) :
    Prop :=
  ∀ (t : State) (sf : Subframe) (sub : SampleRam) (rest : Bits) (m : Nat), t.si = si → t.stream = bits ++ rest →
    drain (m + j) (t.withFrame fh sf sub p) = drain m ((t.skip bits.length).withFrame fh' sf sub p')

theorem HeaderTakes.trans {si : StreamInfo} {bits bits' : Bits} {j j' : Nat} {fh fh' fh'' : FrameHeader} {p p' p'' : Position}
    (h : HeaderTakes si bits j fh p fh' p') (h' : HeaderTakes si bits' j' fh' p' fh'' p'') :
    HeaderTakes si (bits ++ bits') (j + j') fh p fh'' p'' := by
  intro t sf sub rest m hsi hahead
  rw [List.append_assoc] at hahead
  have hrest := stream_skip_of_ahead hahead rfl
  rw [Nat.add_comm j j', ← Nat.add_assoc, h t sf sub _ _ hsi hahead, h' _ sf sub rest m (by rw [skip_si, hsi]) hrest,
    ← skip_add, List.length_append]

/-- An element of k bits, by what it writes once they are read. -/
theorem headerTakes_element {si : StreamInfo} {i : Instr} {k : Nat} {fh fh' : FrameHeader} {p p' : Position}
    (write : State → State) (hback : ∀ align, ReadsBack i align) (hp : i.position = p) (hhost : p ≠ .host)
    (hlen : i.encode.length = k) (hk : k ≤ 32)
    (hexec : ∀ u : State, k ≤ u.stream.length → u.fh = fh → u.si = si → exec i u = .next (write (u.skip k)))
    (hwrite : ∀ (u : State) (sf : Subframe) (sub : SampleRam), u.si = si →
      write (u.withFrame fh sf sub p) = u.withFrame fh' sf sub p') :
    HeaderTakes si i.encode 1 fh p fh' p' := by
  intro t sf sub rest m hsi hahead
  have hstep : elementStep (t.withFrame fh sf sub p) = exec i (t.withFrame fh sf sub p) :=
    elementStep_of_ahead (hback _) hp (hp ▸ hhost) (hlen ▸ hk) hahead
  have hbits : k ≤ (t.withFrame fh sf sub p).stream.length := by
    rw [withFrame_stream, hahead, List.length_append]
    omega
  refine drain_element hhost ?_
  rw [hstep, hexec _ hbits rfl hsi, skip_withFrame, hwrite _ sf sub (by rw [skip_si, hsi]), hlen]

section Header

variable {si : StreamInfo} {fh : FrameHeader}

/-- SYNC, RESERVED_A and BLOCKING with the bit 0 (R171 to R173). -/
theorem headerTakes_sync : HeaderTakes si (natToBits 16 0xFFF8) 1 fh .sync { fh with blocking := false } .bsCode :=
  headerTakes_element (i := .fhBlocking0) (fun u => { u with fh.blocking := false, seq.pos := .bsCode }) readsBack_fhBlocking0
    rfl (by decide) rfl (by decide) (fun _ hu _ _ => outcome_ok (syncAndBlocking_ok false hu)) fun _ _ _ _ => rfl

/-- BS_CODE of the trailing 16-bit field (R174). -/
theorem headerTakes_bsCode : HeaderTakes si (natToBits 4 7) 1 fh .bsCode { fh with bsCode := 7 } .srCode :=
  headerTakes_element (i := .fhBs7) (fun u => { u with fh.bsCode := 7, seq.pos := .srCode }) readsBack_fhBs7
    rfl (by decide) rfl (by decide) (fun u hu _ _ => (blockSizeAndRateCodes .fhBs7 7 u hu).1 rfl) fun _ _ _ _ => rfl

/-- SR_CODE of StreamInfo's rate (R175). -/
theorem headerTakes_srCode : HeaderTakes si (natToBits 4 0) 1 fh .srCode { fh with srCode := 0 } .chCode :=
  headerTakes_element (i := .fhSr0) (fun u => { u with fh.srCode := 0, seq.pos := .chCode }) readsBack_fhSr0
    rfl (by decide) rfl (by decide) (fun u hu _ _ => (blockSizeAndRateCodes .fhSr0 0 u hu).2 rfl) fun _ _ _ _ => rfl

/-- CH_CODE of independent channels (R177). -/
theorem headerTakes_chCode {channels : Nat} (hc : 1 ≤ channels ∧ channels ≤ 8) :
    HeaderTakes si (natToBits 4 (channels - 1)) 1 fh .chCode
      { fh with chCode := BitVec.ofNat 4 (channels - 1), assign := .independent, channels := BitVec.ofNat 4 channels }
      .bpsCode := by
  have hcode : channels - 1 < 16 := by omega
  rw [← encode_chCodeOf hcode]
  refine headerTakes_element (k := 4)
    (fun u => { u with
      fh.chCode := BitVec.ofNat 4 (channels - 1), fh.assign := .independent, fh.channels := BitVec.ofNat 4 channels
      seq.pos := .bpsCode })
    (fun align => readsBack_chCodeOf align hcode) (position_chCodeOf _) (by decide) (by rw [encode_chCodeOf hcode]; rfl)
    (by decide) (fun u hu _ _ => ?_) fun _ _ _ _ => rfl
  have hrun := channelCodes _ _ u (chCode?_chCodeOf hcode) hu
  simp only [if_pos (show channels - 1 ≤ 7 by omega), Nat.sub_add_cancel hc.1] at hrun
  exact hrun

/-- BPS_CODE of StreamInfo's depth, and RESERVED_B (R178, R179). -/
theorem headerTakes_bpsCode : HeaderTakes si (natToBits 4 0) 1 fh .bpsCode { fh with bpsCode := 0, bps := si.bps } .number := by
  refine headerTakes_element (i := .fhBps0) (fun u => { u with fh.bpsCode := 0, fh.bps := si.bps, seq.pos := .number })
    readsBack_fhBps0 rfl (by decide) rfl (by decide) (fun u hu _ hsi => ?_) fun _ _ _ _ => rfl
  have hdepth : BitVec.ofNat 6 (depthOf 0 u.si.bps) = si.bps := by
    rw [hsi]
    exact BitVec.ofNat_toNat _ _
  have hrun := (depthCodes .fhBps0 0 false u rfl).2.1 (by decide) hu
  rw [hdepth] at hrun
  exact hrun

theorem numberLead_one {x : Nat} {s : State} (h : 8 ≤ s.stream.length) (hbs : s.fh.bsCode ≠ 0) (hsr : s.fh.srCode ≠ 15) :
    numberLead 1 x s = .ok () ({ s.skip 8 with fh.number := (BitVec.ofNat 36 x).setWidth 64 } : State).afterNumber := by
  rw [numberLead, bind_ok (skipBits_ok h), bind_ok (ask_run _ _)]
  exact (bind_ok (update_run _ _)).trans (resolveBlockSize_ok (by simpa using hbs) (by simpa using hsr))

/-- NUMBER of one byte (R180). -/
theorem headerTakes_number (x : BitVec 7) (hbs : fh.bsCode = 7) (hsr : fh.srCode = 0) :
    HeaderTakes si (natToBits 8 x.toNat) 1 fh .number { fh with number := x.setWidth 64 } .bs16 := by
  have hbits : (Instr.numLead00 x).encode = natToBits 8 x.toNat := by rw [Instr.encode, Nat.zero_add]
  have hnumber : (BitVec.ofNat 36 x.toNat).setWidth 64 = x.setWidth 64 := by bv_omega
  rw [← hbits]
  refine headerTakes_element (k := 8) (fun u => ({ u with fh.number := x.setWidth 64 } : State).afterNumber)
    (fun align => readsBack_numLead00 align x) rfl (by decide) rfl (by decide) (fun u hu hfh _ => ?_) fun u sf sub _ => ?_
  · have hrun := numberLead_one (x := x.toNat) hu (by rw [hfh, hbs]; decide) (by rw [hfh, hsr]; decide)
    rw [hnumber] at hrun
    exact outcome_ok hrun
  · rw [State.afterNumber, if_neg (by rw [withFrame_fh, hbs]; decide), if_pos (by rw [withFrame_fh, hbs])]
    rfl

/-- BS16, and the rate by its code (R176, R181, R182). -/
theorem headerTakes_bs16 {n : Nat} (hn : 1 ≤ n ∧ n ≤ 65536) (hsr : fh.srCode = 0) :
    HeaderTakes si (natToBits 16 (n - 1)) 1 fh .bs16 { fh with blockSize := BitVec.ofNat 17 n, rate := si.rate } .crc8 := by
  have hfield : (BitVec.ofNat 16 (n - 1)).toNat = n - 1 := Nat.mod_eq_of_lt (by omega)
  have hbits : (Instr.bs16 (BitVec.ofNat 16 (n - 1))).encode = natToBits 16 (n - 1) := by rw [Instr.encode, hfield]
  rw [← hbits]
  refine headerTakes_element (k := 16) (fun u => ({ u with fh.blockSize := BitVec.ofNat 17 n } : State).afterBlockSize)
    (fun align => readsBack_bs16 align _) rfl (by decide) rfl (by decide) (fun u hu hfh _ => ?_) fun u sf sub hsi => ?_
  · have hrun := trailingBlockSize_ok (n - 1) (by rw [hfh, hsr]; decide) hu
    rw [Nat.sub_add_cancel hn.1, ← hfield] at hrun
    exact outcome_ok hrun
  · have hrate : BitVec.ofNat 20 (rateOf fh.srCode.toNat u.si.rate) = si.rate := by
      rw [hsr, hsi]
      exact BitVec.ofNat_toNat _ _
    rw [State.afterBlockSize, if_neg (by rw [withFrame_fh, hsr]; decide), if_neg (by rw [withFrame_fh, hsr]; decide),
      if_neg (by rw [withFrame_fh, hsr]; decide), withFrame_fh, withFrame_si, hrate]
    rfl

end Header

/-- The registers after the header: the fields its codes stand for, the checksum written last (R28). -/
def verbatimFields (si : StreamInfo) (x : BitVec 7) (channels n : Nat) (crc8 : BitVec 8) : FrameHeader where
  blocking := false
  bsCode := 7
  srCode := 0
  chCode := BitVec.ofNat 4 (channels - 1)
  bpsCode := 0
  number := x.setWidth 64
  blockSize := BitVec.ofNat 17 n
  rate := si.rate
  channels := BitVec.ofNat 4 channels
  assign := .independent
  bps := si.bps
  crc8 := crc8

/-- The bits of the header before its checksum (R84 to R90, R181). -/
def verbatimHeaderBits (x : BitVec 7) (channels n : Nat) : Bits :=
  natToBits 16 0xFFF8 ++ natToBits 4 7 ++ natToBits 4 0 ++ natToBits 4 (channels - 1) ++ natToBits 4 0 ++
    natToBits 8 x.toNat ++ natToBits 16 (n - 1)

/-- The header's seven elements before its checksum (R170 to R182). -/
theorem headerTakes_verbatim (si : StreamInfo) (fh : FrameHeader) (x : BitVec 7) {channels n : Nat}
    (hc : 1 ≤ channels ∧ channels ≤ 8) (hn : 1 ≤ n ∧ n ≤ 65536) :
    HeaderTakes si (verbatimHeaderBits x channels n) 7 fh .sync (verbatimFields si x channels n fh.crc8) .crc8 :=
  headerTakes_sync.trans headerTakes_bsCode |>.trans headerTakes_srCode |>.trans (headerTakes_chCode hc)
    |>.trans headerTakes_bpsCode |>.trans (headerTakes_number x rfl rfl) |>.trans (headerTakes_bs16 hn rfl)

end Sys2Proof.Machine

/-!
The subframes of a frame of independent VERBATIM channels (R200 to R206, R217), and what follows the last of them (R250, R255 to
R258).
-/

namespace Sys2Proof.Machine

/-! ### A VERBATIM subframe -/

/-- The subframe registers written. -/
def State.withSf (s : State) (sf : Subframe) : State := { s with sf := sf }

theorem skip_withSf (n : Nat) (sf : Subframe) (s : State) : (s.withSf sf).skip n = (s.skip n).withSf sf := skip_with_sf n sf s

@[simp] theorem withSf_stream (s : State) (sf : Subframe) : (s.withSf sf).stream = s.stream := rfl

@[simp] theorem withSf_cfg (s : State) (sf : Subframe) : (s.withSf sf).cfg = s.cfg := rfl

@[simp] theorem withSf_fh (s : State) (sf : Subframe) : (s.withSf sf).fh = s.fh := rfl

@[simp] theorem withSf_sf (s : State) (sf : Subframe) : (s.withSf sf).sf = sf := rfl

@[simp] theorem withSf_sub (s : State) (sf : Subframe) : (s.withSf sf).sub = s.sub := rfl

/-- A subframe type that selects a decoder, once its six bits are read (R202). -/
theorem subframeType_ok {type order : Nat} {kind : SubframeKind} {s t : State} (h : skipBits 6 s = .ok () t)
    (hkind : subframeKindOf t.cfg type = some (kind, order)) :
    subframeType type s =
      .ok () (t.withSf { t.sf with type := BitVec.ofNat 6 type, kind := kind, order := BitVec.ofNat 6 order }) := by
  rw [subframeType_run h, hkind]
  rfl

@[simp] theorem withHeader_ch (sf : Subframe) (type : Nat) (kind : SubframeKind) (order k : Nat) :
    (sf.withHeader type kind order k).ch = sf.ch := rfl

/-- A subframe header without wasted bits, its eight bits ahead (R201 to R204). -/
theorem subframeHeader_unwasted {type order : Nat} {kind : SubframeKind} {s : State}
    (hkind : subframeKindOf s.cfg type = some (kind, order))
    (hw : 1 ≤ s.sf.fullW.toNat ∧ s.sf.fullW.toNat ≤ s.cfg.maxReadWidth) (h : 8 ≤ s.stream.length) :
    subframeHeader type false s = .ok () ((s.skip 8).withSf (s.sf.withHeader type kind order 0)) := by
  have htype := subframeType_ok (skipBits_next (m := 1) (n := 6) (s := s) (by omega)) (by rwa [skip_cfg])
  have hflag := skipBits_next (m := 7) (n := 1)
    (s := s.withSf { s.sf with type := BitVec.ofNat 6 type, kind := kind, order := BitVec.ofNat 6 order }) h
  rw [skip_withSf, skip_withSf] at hflag
  rw [skip_sf] at htype
  have hwidth : 1 ≤ (s.sf.fullW - BitVec.ofNat 6 0).toNat ∧
      (s.sf.fullW - BitVec.ofNat 6 0).toNat ≤ (s.skip 8).cfg.maxReadWidth := by
    rwa [BitVec.sub_zero, skip_cfg]
  rw [subframeHeader, bind_ok (skipBits_ok (by omega)), bind_ok htype, bind_ok hflag, wastedCount]
  simp only [Bool.false_eq_true, if_false]
  rw [bind_ok (pure_run _ _), bind_ok (update_run _ _), bind_ok (update_run _ _), bind_ok (ask_run _ _), checkWidth_run]
  generalize s.skip 8 = t at *
  exact if_pos hwidth

/-- The bits of a VERBATIM subframe without wasted bits (R92, R95). -/
def verbatimBits (w : Nat) (row : List Int) : Bits := natToBits 8 2 ++ row.flatMap (signedBits w)

theorem verbatimBits_length (w : Nat) (row : List Int) : (verbatimBits w row).length = 8 + row.length * w := by
  have hrow : (row.flatMap (signedBits w)).length = row.length * w := by
    simp [List.length_flatMap, signedBits_length, Function.const_def]
  rw [verbatimBits, List.length_append, natToBits_length, hrow]

/-- After a row is read: without wasted bits the row stays as it is, and the channel loop goes on (R200, R217). -/
theorem finishSubframe_unwasted {f : Nat → Int} {s : State} (hk : s.sf.wasted = 0) (hc : s.sf.ch.toNat < s.cfg.maxChannels.val)
    (hn : s.fh.blockSize.toNat ≤ s.cfg.maxBlock.val) (held : s.sub.Holds s.sf.ch.toNat 0 s.fh.blockSize.toNat f) :
    ∃ sub, finishSubframe s = startChannel (s.sf.ch.toNat + 1) (s.withSub sub) ∧
      RowWritten s.sub sub s.sf.ch.toNat 0 s.fh.blockSize.toNat f := by
  obtain ⟨sub, hshift, hrow⟩ := wastedShift_ok s.sf.wasted.toNat hc hn held
  refine ⟨sub, ?_, hrow.congr fun i _ _ => ?_⟩
  · rw [finishSubframe, bind_ok (ask_run _ _), bind_ok (ask_run _ _), bind_ok hshift]
  · rw [hk]
    exact Int.mul_one _

/-- A VERBATIM subframe that is ahead: its row is written, and the channel loop goes on (R206). -/
theorem verbatimSubframe_ok {row : List Int} {rest : Bits} {s : State}
    (hw : 1 ≤ s.sf.fullW.toNat ∧ s.sf.fullW.toNat ≤ s.cfg.maxReadWidth) (hc : s.sf.ch.toNat < s.cfg.maxChannels.val)
    (hlen : row.length = s.fh.blockSize.toNat) (hn : s.fh.blockSize.toNat ≤ s.cfg.maxBlock.val)
    (hfits : ∀ v ∈ row, fits s.sf.fullW.toNat v = true) (h : s.stream = verbatimBits s.sf.fullW.toNat row ++ rest) :
    ∃ sub, verbatimSubframe false s =
        startChannel (s.sf.ch.toNat + 1)
          (((s.skip (verbatimBits s.sf.fullW.toNat row).length).withSf (s.sf.withHeader 1 .verbatim 0 0)).withSub sub) ∧
      RowWritten s.sub sub s.sf.ch.toNat 0 s.fh.blockSize.toNat fun i => row.getD i 0 := by
  rw [verbatimBits_length]
  rw [verbatimBits, List.append_assoc] at h
  have hhead := subframeHeader_unwasted (type := 1) rfl hw (by rw [h, List.length_append, natToBits_length]; omega)
  have hbody := stream_skip_of_ahead h (natToBits_length ..)
  have hwidth : (s.sf.withHeader 1 .verbatim 0 0).w = s.sf.fullW := BitVec.sub_zero _
  obtain ⟨sub, hread, hrow⟩ := readSamples_ok (i := 0) (s := (s.skip 8).withSf (s.sf.withHeader 1 .verbatim 0 0))
    (by rwa [withSf_cfg, skip_cfg]) (by rw [withSf_cfg, skip_cfg]; omega) hfits hbody
  rw [skip_withSf, ← skip_add] at hread
  rw [Nat.zero_add, withSf_sub, skip_sub, hlen] at hrow
  obtain ⟨sub', hfinish, hrow'⟩ := finishSubframe_unwasted
    (s := ((s.skip (8 + row.length * s.sf.fullW.toNat)).withSf (s.sf.withHeader 1 .verbatim 0 0)).withSub sub) rfl
    (by simpa using hc) (by simpa using hn) (by simpa using hrow.holds)
  simp only [withSub_withSub, withSub_sf, withSub_fh, withSub_sub, withSf_sf, withSf_fh, withHeader_ch, skip_fh] at hfinish hrow'
  refine ⟨sub', ?_, hrow.trans hrow'⟩
  rw [verbatimSubframe, bind_ok hhead, bind_ok (ask_run _ _), bind_ok (ask_run _ _)]
  simp only [withSf_sf, withSf_fh, skip_fh, withHeader_ch, hwidth, ← hlen]
  rw [bind_ok hread, hfinish]

/-! ### The channel loop -/

/-- The rows of a frame stand in the first rows of a sample RAM. -/
def SampleRam.HoldsRows (ram : SampleRam) (n : Nat) (rows : List (List Int)) : Prop :=
  ∀ c < rows.length, ram.Holds c 0 n fun i => (rows.getD c []).getD i 0

/-- One more row. -/
theorem SampleRam.HoldsRows.snoc {before after : SampleRam} {n : Nat} {rows : List (List Int)} {row : List Int}
    (h : before.HoldsRows n rows) (hrow : RowWritten before after rows.length 0 n fun i => row.getD i 0) (hn : n ≤ topBlock) :
    after.HoldsRows n (rows ++ [row]) := by
  intro c hc
  rw [List.length_append] at hc
  obtain hc | rfl := Nat.lt_succ_iff_lt_or_eq.mp hc
  · rw [List.getD_append _ _ _ _ hc]
    exact hrow.holds_other (Nat.ne_of_lt hc) hn hn (h c hc)
  · rw [List.getD_append_right _ _ _ _ le_rfl, Nat.sub_self]
    exact hrow.holds

/-- The frame's registers fit rows of independent channels, each value one that a sample's field holds. -/
structure VerbatimFrame (cfg : Config) (fh : FrameHeader) (rows : List (List Int)) : Prop where
  assign : fh.assign = .independent
  channels : fh.channels.toNat = rows.length
  maxChannels : rows.length ≤ cfg.maxChannels.val
  maxBlock : fh.blockSize.toNat ≤ cfg.maxBlock.val
  width : 1 ≤ fh.bps.toNat ∧ fh.bps.toNat ≤ cfg.maxReadWidth
  row : ∀ row ∈ rows, row.length = fh.blockSize.toNat ∧ ∀ v ∈ row, fits fh.bps.toNat v = true

theorem inRange_of_fits {w : Nat} {v : Int} (hw : 1 ≤ w) (h : fits w v = true) : inRange w v = true := by
  rwa [fits, if_neg (Nat.ne_of_gt hw)] at h

/-- A loop none of whose turns changes anything. -/
theorem forRange_unchanged {f : Nat → M Unit} {start n : Nat} {s : State}
    (turn : ∀ i, start ≤ i → i < start + n → f i s = .ok () s) : forRange start n f s = .ok () s := by
  obtain ⟨t, ht, rfl⟩ := forRange_ok (P := fun _ t => t = s) (f := f) (start := start) (n := n)
    (fun i t hlo hi ht => ⟨t, by rw [ht, turn i hlo hi], ht⟩) rfl
  exact ht

/-- The output range check passes values in range (R255). -/
theorem checkOutputRange_ok {channels n w : Nat} {f : Nat → Nat → Int} {s : State} (hc : channels ≤ s.cfg.maxChannels.val)
    (hn : n ≤ s.cfg.maxBlock.val) (held : ∀ c < channels, s.sub.Holds c 0 n (f c))
    (hin : ∀ c < channels, ∀ i < n, inRange w (f c i) = true) : checkOutputRange channels n w s = .ok () s := by
  refine forRange_unchanged fun c _ hlt => forRange_unchanged fun i _ hi => ?_
  rw [Nat.zero_add] at hlt hi
  have hread := readSample_ok (by omega) (by omega) (held c hlt i hi (Nat.zero_le i))
  rw [bind_ok hread, raiseIf_run, hin c hlt i hi]
  rfl

/-- After the last row of independent channels: nothing to reconstruct, every value in range (R251, R255). -/
theorem finishChannels_independent {rows : List (List Int)} {s : State} (hf : VerbatimFrame s.cfg s.fh rows)
    (held : s.sub.HoldsRows s.fh.blockSize.toNat rows) : finishChannels s = .ok () { s with seq.pos := .pad } := by
  have hcheck : checkOutputRange s.fh.channels.toNat s.fh.blockSize.toNat s.fh.bps.toNat s = .ok () s := by
    rw [hf.channels]
    refine checkOutputRange_ok hf.maxChannels hf.maxBlock held fun c hc i hi => ?_
    obtain ⟨hlen, hfits⟩ := hf.row _ (List.getElem_mem hc)
    rw [List.getD_eq_getElem _ _ hc, List.getD_eq_getElem _ _ (hlen ▸ hi)]
    exact inRange_of_fits hf.width.1 (hfits _ (List.getElem_mem _))
  have hnone : reconstructChannels s.fh.assign s.fh.blockSize.toNat s = .ok () s := by
    rw [hf.assign]
    rfl
  rw [finishChannels, bind_ok (ask_run _ _), bind_ok hnone, bind_ok (ask_run _ _)]
  cases s.cfg.rangeCheck
  · rfl
  · exact bind_ok hcheck

end Sys2Proof.Machine

/-!
The run of PULL over a whole frame of independent VERBATIM channels (R275): the header's checksum, the subframes, the padding,
the footer and the commit.
-/

namespace Sys2Proof.Machine

/-! ### The header's checksum and the subframes -/

/-- HEADER_CRC that matches, the block size in its bounds: subframe 0 is set up (R183, R184, R200). -/
theorem exec_crc8_ok {s : State} (h : 8 ≤ s.stream.length) (hc : s.fh.channels ≠ 0)
    (hmax : s.fh.blockSize.toNat ≤ s.si.maxBlock.toNat)
    (hmin : s.cfg.blockSizeCheck = .minMax → s.si.minBlock.toNat ≤ s.fh.blockSize.toNat) :
    exec (.crc8 s.crc8) s =
      .next (({ ({ s with crc8En := false } : State).skip 8 with fh.crc8 := s.crc8 } : State).atSubframe 0) := by
  have hrun := (headerChecksum s.crc8 s).2 h hc
  dsimp only at hrun
  rw [if_neg (not_not.mpr rfl), if_neg fun hover => Nat.not_lt.mpr hmax hover.2,
    if_neg fun hunder => Nat.not_lt.mpr (hmin hunder.1) hunder.2] at hrun
  exact hrun

/-- The registers of subframe c of independent channels, its header not yet read (R200). -/
def Subframe.atChannel (sf : Subframe) (fh : FrameHeader) (c : Nat) : Subframe :=
  { sf with ch := BitVec.ofNat 3 c, fullW := fh.bps }

theorem atSubframe_withFrame {fh : FrameHeader} (h : fh.assign = .independent) (t : State) (sf : Subframe) (sub : SampleRam)
    (p : Position) (c : Nat) :
    (t.withFrame fh sf sub p).atSubframe c = t.withFrame fh (sf.atChannel fh c) sub .subframe := by
  have hwidth : BitVec.ofNat 6 (fullWidth fh c) = fh.bps := by simp [fullWidth, h]
  rw [State.atSubframe, withFrame_fh, hwidth]
  rfl

/-- HEADER_CRC of a frame of independent channels that matches, the block size in its bounds. -/
theorem exec_crc8_withFrame {fh : FrameHeader} {t : State} (sf : Subframe) (sub : SampleRam) (p : Position)
    (h : 8 ≤ t.stream.length) (hc : fh.channels ≠ 0) (hassign : fh.assign = .independent)
    (hmax : fh.blockSize.toNat ≤ t.si.maxBlock.toNat)
    (hmin : t.cfg.blockSizeCheck = .minMax → t.si.minBlock.toNat ≤ fh.blockSize.toNat) :
    exec (.crc8 t.crc8) (t.withFrame fh sf sub p) =
      .next ((({ t with crc8En := false } : State).skip 8).withFrame { fh with crc8 := t.crc8 } (sf.atChannel fh 0) sub
        .subframe) := by
  have hskip := skip_withFrame { t with crc8En := false } fh sf sub p 8
  refine (exec_crc8_ok (s := t.withFrame fh sf sub p) h hc hmax hmin).trans (congrArg _ ?_)
  rw [show { t.withFrame fh sf sub p with crc8En := false } = ({ t with crc8En := false } : State).withFrame fh sf sub p from rfl,
    hskip]
  generalize ({ t with crc8En := false } : State).skip 8 = u
  exact atSubframe_withFrame (fh := { fh with crc8 := t.crc8 }) hassign u sf sub p 0

/-- The VERBATIM subframe of channel c that is ahead: its row is written, and the channel loop goes on. -/
theorem elementStep_verbatim {fh : FrameHeader} {rows : List (List Int)} {row : List Int} {t : State} {sub : SampleRam} {c : Nat}
    {rest : Bits} (sf : Subframe) (hf : VerbatimFrame t.cfg fh rows) (hc : c < rows.length) (hrow : row ∈ rows)
    (h : t.stream = verbatimBits fh.bps.toNat row ++ rest) :
    ∃ sf' sub', elementStep (t.withFrame fh (sf.atChannel fh c) sub .subframe) =
        outcome (startChannel (c + 1)) ((t.skip (verbatimBits fh.bps.toNat row).length).withFrame fh sf' sub' .subframe) ∧
      RowWritten sub sub' c 0 fh.blockSize.toNat fun i => row.getD i 0 := by
  have hmax := hf.maxChannels
  have hch : (t.withFrame fh (sf.atChannel fh c) sub .subframe).sf.ch.toNat = c :=
    Nat.mod_eq_of_lt (by have := t.cfg.maxChannels.isLt; omega)
  have hfull : (t.withFrame fh (sf.atChannel fh c) sub .subframe).sf.fullW = fh.bps := rfl
  have hstep : elementStep (t.withFrame fh (sf.atChannel fh c) sub .subframe) =
      outcome (verbatimSubframe false) (t.withFrame fh (sf.atChannel fh c) sub .subframe) :=
    elementStep_of_ahead (readsBack_sfVerbatim _) rfl (by decide) (by decide)
      (h.trans (List.append_assoc (natToBits 8 2) (row.flatMap (signedBits fh.bps.toNat)) rest))
  obtain ⟨hlen, hfits⟩ := hf.row row hrow
  obtain ⟨sub', hrun, hwritten⟩ := verbatimSubframe_ok (s := t.withFrame fh (sf.atChannel fh c) sub .subframe) hf.width
    (by rw [hch]; exact Nat.lt_of_lt_of_le hc hmax) hlen hf.maxBlock hfits h
  rw [hch, hfull, skip_withFrame] at hrun
  rw [hch] at hwritten
  refine ⟨(sf.atChannel fh c).withHeader 1 .verbatim 0 0, sub', ?_, hwritten⟩
  rw [hstep, outcome, hrun]
  rfl

/-- From subframe c on, the rows before it written: each row still to come is read into its row of `SUB`, and the padding
follows the last (R200, R206). -/
theorem drain_subframes {fh : FrameHeader} {done todo : List (List Int)} {t : State} {sf : Subframe} {sub : SampleRam}
    {rest : Bits} (hf : VerbatimFrame t.cfg fh (done ++ todo)) (htodo : todo ≠ [])
    (held : sub.HoldsRows fh.blockSize.toNat done) (h : t.stream = todo.flatMap (verbatimBits fh.bps.toNat) ++ rest) (m : Nat) :
    ∃ sf' sub', drain (m + todo.length) (t.withFrame fh (sf.atChannel fh done.length) sub .subframe) =
        drain m ((t.skip (todo.flatMap (verbatimBits fh.bps.toNat)).length).withFrame fh sf' sub' .pad) ∧
      sub'.HoldsRows fh.blockSize.toNat (done ++ todo) := by
  induction todo generalizing done t sf sub with
  | nil => exact absurd rfl htodo
  | cons row todo ih =>
    have hmax := hf.maxChannels
    have hchannels := hf.channels
    rw [List.length_append, List.length_cons] at hmax hchannels
    rw [List.flatMap_cons, List.append_assoc] at h
    obtain ⟨sf', sub', hstep, hwritten⟩ := elementStep_verbatim (c := done.length) sf hf (by simp)
      (List.mem_append_right done (List.mem_cons_self ..)) h
    have hrest := stream_skip_of_ahead h rfl
    have htop : fh.blockSize.toNat ≤ topBlock :=
      hf.maxBlock.trans (by have := t.cfg.maxBlock.isLt; simp only [topBlock]; omega)
    have hheld := held.snoc hwritten htop
    have hagain : done ++ [row] ++ todo = done ++ row :: todo := List.append_assoc ..
    match todo with
    | [] =>
      have hend := startChannel_end (s := (t.skip (verbatimBits fh.bps.toNat row).length).withFrame fh sf' sub' .subframe)
        (c := done.length + 1) hchannels.le
      rw [finishChannels_independent (rows := done ++ [row]) (by rw [withFrame_cfg, skip_cfg]; exact hf) hheld] at hend
      refine ⟨sf', sub', ?_, hheld⟩
      rw [outcome_ok hend] at hstep
      rw [List.length_singleton, drain_element (by rw [withFrame_pos]; decide) hstep, List.flatMap_singleton]
      rfl
    | next :: todo =>
      have hnext := startChannel_next (s := (t.skip (verbatimBits fh.bps.toNat row).length).withFrame fh sf' sub' .subframe)
        (c := done.length + 1) (by rw [withFrame_fh, hchannels, List.length_cons]; omega)
      rw [atSubframe_withFrame hf.assign] at hnext
      rw [outcome_ok hnext] at hstep
      obtain ⟨sf'', sub'', hrun, hall⟩ := ih (done := done ++ [row]) (sf := sf') (by rw [hagain, skip_cfg]; exact hf)
        (by simp) hheld hrest
      rw [List.length_append, List.length_singleton, ← skip_add, ← List.length_append] at hrun
      rw [hagain] at hall
      refine ⟨sf'', sub'', ?_, hall⟩
      rw [List.length_cons, ← Nat.add_assoc, drain_element (by rw [withFrame_pos]; decide) hstep, hrun]
      rfl

end Sys2Proof.Machine

/-!
The end of a frame (R256 to R258), and the whole of PULL over a frame of independent VERBATIM channels (R275).
-/

namespace Sys2Proof.Machine

/-! ### Padding, footer and commit -/

/-- Padding of zeros up to the byte boundary is passed over (R256). -/
theorem framePadding_zeros {pad : Bits} {s : State} (hbits : s.bitsLeft = pad.length) (hzero : ∀ b ∈ pad, b = false)
    (h : pad.length ≤ s.stream.length) : framePadding pad s = .ok () { s.skip pad.length with seq.pos := .footer } := by
  have hany : pad.any id = false := List.any_eq_false.mpr fun b hb => by simp [hzero b hb]
  rw [framePadding, bind_ok (ask_run _ _), hbits, bind_ok (skipBits_ok h), bind_ok (ask_run _ _), hany, Bool.and_false]
  rfl

/-- The padding that is ahead. -/
theorem elementStep_pad {fh : FrameHeader} {sf : Subframe} {sub : SampleRam} {pad rest : Bits} {t : State}
    (hbits : t.bitsLeft = pad.length) (hlen : pad.length < 8) (hzero : ∀ b ∈ pad, b = false) (h : t.stream = pad ++ rest) :
    elementStep (t.withFrame fh sf sub .pad) = .next ((t.skip pad.length).withFrame fh sf sub .footer) := by
  have hback : ReadsBack (.pad pad) t.bitsLeft := by
    rw [hbits]
    exact readsBack_pad pad
  have hstep : elementStep (t.withFrame fh sf sub .pad) = outcome (framePadding pad) (t.withFrame fh sf sub .pad) :=
    elementStep_of_ahead (s := t.withFrame fh sf sub .pad) hback rfl nofun (show pad.length ≤ 32 by omega) h
  have hrun := framePadding_zeros (s := t.withFrame fh sf sub .pad) hbits hzero (by rw [withFrame_stream, h]; simp)
  rw [skip_withFrame] at hrun
  rw [hstep, outcome_ok hrun]
  rfl

/-- Everything a commit does where the rows of `SUB` hold f (R258, R275). -/
theorem commitFrame_ok {crc : BitVec 16} {f : Nat → Nat → Int} {s : State}
    (hc : s.fh.channels.toNat ≤ s.cfg.maxChannels.val) (hn : s.fh.blockSize.toNat ≤ s.cfg.maxBlock.val)
    (held : ∀ c < s.fh.channels.toNat, s.sub.Holds c 0 s.fh.blockSize.toNat (f c)) :
    ∃ out, commitFrame crc s =
        .ok () (committed
          { s with
            out := out
            frameOut := s.frameOut ++
              [frameRecord s.fh crc
                ((List.range s.fh.channels.toNat).map fun c => (List.range s.fh.blockSize.toNat).map (f c))] }) ∧
      (∀ c < s.fh.channels.toNat, SampleRam.Holds out c 0 s.fh.blockSize.toNat (f c)) ∧
      ∀ key, (∀ c < s.fh.channels.toNat, ∀ i < s.fh.blockSize.toNat, key ≠ sampleKey c i) →
        SampleRam.read key out = SampleRam.read key s.out := by
  obtain ⟨out, hrun, hholds, hsame⟩ := commitRows_ok (c := 0) (k := s.fh.channels.toNat) (f := f) (by omega) hn
    fun c _ hlt => held c (by omega)
  simp only [Nat.zero_add, Nat.zero_le, true_implies] at hholds hsame
  refine ⟨out, ?_, hholds, hsame⟩
  rw [commitFrame, bind_ok (ask_run _ _), bind_ok hrun, ← List.range_eq_range']
  rfl

/-- A footer that matches, the accumulator stopped before it (R257). -/
theorem frameFooter_match {s t : State} (h : skipBits 16 { s with crc16En := false } = .ok () t) (hcrc : t.crc16 = s.crc16) :
    frameFooter s.crc16 s = commitFrame s.crc16 t := by
  rw [frameFooter, crc16Stop, bind_ok (update_run _ _), bind_ok h, bind_ok (ask_run _ _), hcrc, bind_run, raiseIf_run]
  simp

/-- The high bits of a pattern come first (R9). -/
theorem natToBits_add (m n v : Nat) : natToBits (m + n) v = natToBits m (v >>> n) ++ natToBits n v := by
  induction m with
  | zero => rw [Nat.zero_add, natToBits_zero, List.nil_append]
  | succ m ih =>
    rw [Nat.succ_add, natToBits_succ, ih, natToBits_succ, Nat.testBit_shiftRight, Nat.add_comm n m, List.cons_append]

/-- A pattern of at most n bits depends on the low n bits alone. -/
theorem natToBits_mod {k n : Nat} (h : k ≤ n) (v : Nat) : natToBits k (v % 2 ^ n) = natToBits k v := by
  induction k with
  | zero => rfl
  | succ k ih =>
    have hk : k < n := h
    rw [natToBits_succ, natToBits_succ, ih hk.le, Nat.testBit_mod_two_pow, decide_eq_true hk, Bool.true_and]

/-- The bytes of a footer, the high one first (R64, R257). -/
def footerBytes (crc : BitVec 16) : List Byte := [crc.extractLsb' 8 8, crc.extractLsb' 0 8]

theorem flatMap_footerBytes (crc : BitVec 16) : (footerBytes crc).flatMap byteToBits = natToBits 16 crc.toNat := by
  rw [footerBytes, List.flatMap_cons, List.flatMap_singleton, byteToBits, byteToBits, BitVec.extractLsb'_toNat,
    BitVec.extractLsb'_toNat, Nat.shiftRight_zero, natToBits_mod le_rfl, natToBits_mod le_rfl, ← natToBits_add]

/-- The record's samples are the rows. -/
theorem map_range_getD {rows : List (List Int)} {n : Nat} (h : ∀ row ∈ rows, row.length = n) :
    ((List.range rows.length).map fun c => (List.range n).map fun i => (rows.getD c []).getD i 0) = rows := by
  refine List.ext_getElem (by simp) fun c _ hc => ?_
  refine List.ext_getElem (by simp [h _ (List.getElem_mem hc)]) fun i _ hi => ?_
  simp [hc, hi]

/-- From `s`, PULL has ended with the frame committed: these rows in `OUT` and in the record, the source after the footer
(R258, R281). -/
structure Pulled (s t : State) (fh : FrameHeader) (crc : BitVec 16) (rows : List (List Int)) (rest : List SrcAnswer) : Prop where
  pos : t.seq.pos = .host
  state : t.state = s.state
  lastResult : t.lastResult = .frame
  framesOk : t.framesOk = s.framesOk + 1
  samplesOut : t.samplesOut = s.samplesOut + fh.blockSize.setWidth 64
  src : t.src = rest
  bitsLeft : t.bitsLeft = 0
  out : t.out.HoldsRows fh.blockSize.toNat rows
  frameOut : t.frameOut = s.frameOut ++ [frameRecord fh crc rows]

/-- The footer that is ahead and matches: the frame is committed (R257, R258). -/
theorem elementStep_footer {fh : FrameHeader} {sf : Subframe} {sub : SampleRam} {rows : List (List Int)} {t : State}
    {rest : List SrcAnswer} (hf : VerbatimFrame t.cfg fh rows) (held : sub.HoldsRows fh.blockSize.toNat rows)
    (hbits : t.bitsLeft = 0) (hsrc : t.src = (footerBytes t.crc16).map .byte ++ rest) :
    ∃ u, elementStep (t.withFrame fh sf sub .footer) = .next u ∧ Pulled t u fh t.crc16 rows rest := by
  have hstream : t.stream = natToBits 16 t.crc16.toNat ++ answerBits rest := by
    rw [State.stream, hbits, hsrc, answerBits_bytes, flatMap_footerBytes]
    rfl
  have hahead : 16 ≤ t.stream.length := by rw [hstream, List.length_append, natToBits_length]; omega
  have hstep : elementStep (t.withFrame fh sf sub .footer) = outcome (frameFooter t.crc16) (t.withFrame fh sf sub .footer) :=
    elementStep_of_ahead (s := t.withFrame fh sf sub .footer) (readsBack_crc16 _ _) rfl nofun
      ((natToBits_length ..).le.trans (by decide)) hstream
  have hread := skipBits_ok (s := ({ t with crc16En := false } : State).withFrame fh sf sub .footer) hahead
  rw [skip_withFrame] at hread
  have htaken := skip_bytes (s := { t with crc16En := false }) hbits hsrc
  obtain ⟨hafter, haligned⟩ := skip_bytes_rest (s := { t with crc16En := false }) hbits hsrc
  rw [show 8 * (footerBytes t.crc16).length = 16 from rfl] at htaken hafter haligned
  have hcfg := skip_cfg 16 { t with crc16En := false }
  have hstate := skip_state 16 { t with crc16En := false }
  have hframes := skip_framesOk 16 { t with crc16En := false }
  have hsamples := skip_samplesOut 16 { t with crc16En := false }
  have hport := skip_frameOut 16 { t with crc16En := false }
  generalize ({ t with crc16En := false } : State).skip 16 = v at *
  obtain ⟨out, hcommit, hholds, -⟩ := commitFrame_ok (crc := t.crc16) (f := fun c i => (rows.getD c []).getD i 0)
    (s := v.withFrame fh sf sub .footer) (by rw [withFrame_fh, withFrame_cfg, hcfg, hf.channels]; exact hf.maxChannels)
    (by rw [withFrame_fh, withFrame_cfg, hcfg]; exact hf.maxBlock) (by rw [withFrame_fh, hf.channels]; exact held)
  rw [withFrame_fh, hf.channels, map_range_getD fun row hrow => (hf.row row hrow).1] at hcommit
  rw [withFrame_fh, hf.channels] at hholds
  have hrun := (frameFooter_match (s := t.withFrame fh sf sub .footer) hread htaken.crc16).trans hcommit
  refine ⟨_, hstep.trans (outcome_ok hrun), ?_⟩
  exact
    { pos := rfl
      state := hstate
      lastResult := rfl
      framesOk := by rw [← hframes]; rfl
      samplesOut := by rw [← hsamples]; rfl
      src := hafter
      bitsLeft := haligned
      out := hholds
      frameOut := by rw [← hport]; rfl }

end Sys2Proof.Machine

namespace Sys2Proof.Machine

/-! ### The whole frame -/

/-- A state is the state of its own frame registers. -/
theorem eq_withFrame {s : State} {sub : SampleRam} {p : Position} (hsub : s.sub = sub) (hp : s.seq.pos = p) :
    s = s.withFrame s.fh s.sf sub p := by
  rw [State.withFrame, ← hsub, ← hp]

/-- From the sync code through the header's checksum, both ahead (R170 to R184). -/
theorem drain_header {si : StreamInfo} {x : BitVec 7} {channels n : Nat} {s : State} {rest : Bits}
    (hp : s.seq.pos = .sync) (hsub : s.sub = []) (hsi : s.si = si) (hc : 1 ≤ channels ∧ channels ≤ 8)
    (hn : 1 ≤ n ∧ n ≤ 65536) (hmax : n ≤ si.maxBlock.toNat)
    (hmin : s.cfg.blockSizeCheck = .minMax → si.minBlock.toNat ≤ n)
    {t : State} (ht : t = s.skip (verbatimHeaderBits x channels n).length)
    (h : s.stream = verbatimHeaderBits x channels n ++ (natToBits 8 t.crc8.toNat ++ rest)) (m : Nat) :
    let fh := verbatimFields si x channels n t.crc8
    drain (m + 8) s =
      drain m ((({ t with crc8En := false } : State).skip 8).withFrame fh (s.sf.atChannel fh 0) [] .subframe) := by
  have hhead := headerTakes_verbatim si s.fh x hc hn s s.sf [] _ (m + 1) hsi h
  have hrest := stream_skip_of_ahead h rfl
  rw [← eq_withFrame hsub hp, ← ht] at hhead
  rw [← ht] at hrest
  have hcfg : t.cfg = s.cfg := by rw [ht, skip_cfg]
  have htsi : t.si = si := by rw [ht, skip_si, hsi]
  have hfield : 8 ≤ t.stream.length := by rw [hrest, List.length_append, natToBits_length]; omega
  have hsize : (BitVec.ofNat 17 n).toNat = n := Nat.mod_eq_of_lt (by omega)
  have hchannels : BitVec.ofNat 4 channels ≠ 0 := by bv_omega
  have hstep : elementStep (t.withFrame (verbatimFields si x channels n s.fh.crc8) s.sf [] .crc8) =
      exec (.crc8 t.crc8) _ :=
    elementStep_of_ahead (readsBack_crc8 _ _) rfl nofun ((natToBits_length ..).le.trans (by decide)) hrest
  have hexec := exec_crc8_withFrame (fh := verbatimFields si x channels n s.fh.crc8) s.sf [] .crc8 hfield hchannels rfl
    (by rw [htsi]; exact hsize.le.trans hmax) (by rw [htsi, hcfg]; exact fun h => (hmin h).trans hsize.ge)
  exact hhead.trans (drain_element (by rw [withFrame_pos]; decide) (hstep.trans hexec))

/-- From subframe 0 to the commit, the subframes, the padding up to the byte boundary and the footer ahead (R200 to R258). -/
theorem drain_body {fh : FrameHeader} {rows : List (List Int)} {body : List Byte} {pad : Bits} {t v : State}
    {rest : List SrcAnswer} (sf : Subframe) (hf : VerbatimFrame t.cfg fh rows) (hrows : rows ≠ []) (hbits : t.bitsLeft = 0)
    (hbody : body.flatMap byteToBits = rows.flatMap (verbatimBits fh.bps.toNat) ++ pad) (hlen : pad.length < 8)
    (hzero : ∀ b ∈ pad, b = false) (hv : v = t.skip (8 * body.length))
    (hsrc : t.src = body.map .byte ++ ((footerBytes v.crc16).map .byte ++ rest)) (m : Nat) :
    ∃ u, drain (m + 2 + rows.length) (t.withFrame fh (sf.atChannel fh 0) [] .subframe) = .next u ∧
      Pulled v u fh v.crc16 rows rest := by
  have hstream : t.stream = rows.flatMap (verbatimBits fh.bps.toNat) ++
      (pad ++ answerBits ((footerBytes v.crc16).map .byte ++ rest)) := by
    rw [State.stream, hbits, hsrc, answerBits_bytes, hbody, natToBits_zero, List.nil_append, List.append_assoc]
  obtain ⟨sf', sub, hrun, held⟩ := drain_subframes (done := []) (sf := sf) (sub := []) hf hrows
    (fun c hc => absurd hc (Nat.not_lt_zero c)) hstream (m + 2)
  rw [List.length_nil] at hrun
  have hafter := stream_skip_of_ahead hstream rfl
  have htotal : (rows.flatMap (verbatimBits fh.bps.toNat)).length + pad.length = 8 * body.length := by
    rw [← List.length_append, ← hbody, flatMap_byteToBits_length]
  have hpad : (t.skip (rows.flatMap (verbatimBits fh.bps.toNat)).length).bitsLeft = pad.length := by
    rw [bitsLeft_skip_eq hbits hafter, List.length_append, Nat.add_mod, answerBits_length_mod, Nat.add_zero, Nat.mod_mod,
      Nat.mod_eq_of_lt hlen]
  have hpadded := elementStep_pad (fh := fh) (sf := sf') (sub := sub) hpad hlen hzero hafter
  rw [← skip_add, htotal, ← hv] at hpadded
  obtain ⟨hfooter, haligned⟩ := skip_bytes_rest hbits hsrc
  rw [← hv] at hfooter haligned
  obtain ⟨u, hcommit, hpulled⟩ := elementStep_footer (sf := sf') (t := v) (by rw [hv, skip_cfg]; exact hf) held
    haligned hfooter
  refine ⟨u, ?_, hpulled⟩
  rw [hrun, drain_element (by rw [withFrame_pos]; decide) hpadded, drain_element (by rw [withFrame_pos]; decide) hcommit,
    drain_host hpulled.pos]

end Sys2Proof.Machine

namespace Sys2Proof.Machine

/-! ### PULL -/

/-- PULL in READY with no count of samples to reach runs the frame from its start (R275). -/
theorem exec_cmdPull_of_ready {s : State} (hp : s.seq.pos = .host) (hs : s.state = .ready) (htotal : s.si.total = 0) :
    exec .cmdPull s = runCommand (beginPull s) := by
  have hcount : totalReached s = false := decide_eq_false fun h => h.1 htotal
  rw [show exec .cmdPull s = whenIdle s (pullFrame s) from rfl, whenIdle, if_pos hp, pullFrame, hs]
  simp only [hcount, Bool.false_eq_true, if_false]

/-- What PULL reports depends on these registers of the state before it alone. -/
theorem Pulled.congr {s s' t : State} {fh : FrameHeader} {crc : BitVec 16} {rows : List (List Int)} {rest : List SrcAnswer}
    (h : Pulled s t fh crc rows rest) (hstate : s.state = s'.state) (hframes : s.framesOk = s'.framesOk)
    (hsamples : s.samplesOut = s'.samplesOut) (hport : s.frameOut = s'.frameOut) : Pulled s' t fh crc rows rest :=
  { h with
    state := h.state.trans hstate
    framesOk := by rw [h.framesOk, hframes]
    samplesOut := by rw [h.samplesOut, hsamples]
    frameOut := by rw [h.frameOut, hport] }

/-- The checksum of a header over its bytes (R170, R183). -/
def crc8Of (header : List Byte) : BitVec 8 := header.foldl crc8Step 0

/-- The checksum of a frame over the bytes before its footer (R170, R257). -/
def crc16Of (header body : List Byte) : BitVec 16 := (header ++ [crc8Of header] ++ body).foldl crc16Step 0

/-- The bytes of a frame of independent VERBATIM channels that StreamInfo and the configuration allow: its header, its subframes
with their padding. -/
structure VerbatimBytes (cfg : Config) (si : StreamInfo) (rows : List (List Int)) (x : BitVec 7) (n : Nat)
    (header body : List Byte) (pad : Bits) : Prop where
  channels : 1 ≤ rows.length ∧ rows.length ≤ cfg.maxChannels.val
  blockSize : 1 ≤ n ∧ n ≤ cfg.maxBlock.val
  maxBlock : n ≤ si.maxBlock.toNat
  minBlock : cfg.blockSizeCheck = .minMax → si.minBlock.toNat ≤ n
  width : 1 ≤ si.bps.toNat ∧ si.bps.toNat ≤ cfg.maxReadWidth
  row : ∀ row ∈ rows, row.length = n ∧ ∀ v ∈ row, fits si.bps.toNat v = true
  header : header.flatMap byteToBits = verbatimHeaderBits x rows.length n
  body : body.flatMap byteToBits = rows.flatMap (verbatimBits si.bps.toNat) ++ pad
  pad : pad.length < 8 ∧ ∀ b ∈ pad, b = false

namespace VerbatimBytes

variable {cfg : Config} {si : StreamInfo} {rows : List (List Int)} {x : BitVec 7} {n : Nat} {header body : List Byte} {pad : Bits}

theorem channels_le (h : VerbatimBytes cfg si rows x n header body pad) : rows.length ≤ 8 :=
  h.channels.2.trans (Nat.le_of_lt_succ cfg.maxChannels.isLt)

theorem blockSize_le (h : VerbatimBytes cfg si rows x n header body pad) : n ≤ 65536 :=
  h.blockSize.2.trans (Nat.le_of_lt_succ cfg.maxBlock.isLt)

theorem toNat_blockSize (h : VerbatimBytes cfg si rows x n header body pad) : (BitVec.ofNat 17 n).toNat = n :=
  Nat.mod_eq_of_lt (Nat.lt_of_le_of_lt h.blockSize_le (by decide))

theorem frame (h : VerbatimBytes cfg si rows x n header body pad) (crc8 : BitVec 8) :
    VerbatimFrame cfg (verbatimFields si x rows.length n crc8) rows where
  assign := rfl
  channels := Nat.mod_eq_of_lt (Nat.lt_of_le_of_lt h.channels_le (by decide))
  maxChannels := h.channels.2
  maxBlock := h.toNat_blockSize.le.trans h.blockSize.2
  width := h.width
  row := fun row hrow => ⟨(h.row row hrow).1.trans h.toNat_blockSize.symm, (h.row row hrow).2⟩

end VerbatimBytes

/-- A state in which PULL has just begun the frame (R170, R275). -/
structure PullBegun (u : State) : Prop where
  pos : u.seq.pos = .sync
  sub : u.sub = []
  bitsLeft : u.bitsLeft = 0
  crc8 : u.crc8En = true ∧ u.crc8 = 0
  crc16 : u.crc16En = true ∧ u.crc16 = 0

theorem pullBegun_beginPull (s : State) : PullBegun (beginPull s) := ⟨rfl, rfl, rfl, ⟨rfl, rfl⟩, rfl, rfl⟩

/-- From the sync code to the commit: the whole frame is ahead, the checksums just begun (R170 to R258). -/
theorem drain_frame {rows : List (List Int)} {x : BitVec 7} {n : Nat} {header body : List Byte} {pad : Bits}
    {rest : List SrcAnswer} {u : State} (hu : PullBegun u) (hb : VerbatimBytes u.cfg u.si rows x n header body pad)
    (hsrc : u.src = header.map .byte ++ ([crc8Of header].map .byte ++ (body.map .byte ++
      ((footerBytes (crc16Of header body)).map .byte ++ rest)))) (m : Nat) :
    ∃ v, drain (m + 2 + rows.length + 8) u = .next v ∧
      Pulled u v (verbatimFields u.si x rows.length n (crc8Of header)) (crc16Of header body) rows rest := by
  obtain ⟨tail, hahead⟩ : ∃ tail,
      u.stream = verbatimHeaderBits x rows.length n ++ (natToBits 8 (crc8Of header).toNat ++ tail) := by
    rw [State.stream, hu.bitsLeft, hsrc, answerBits_bytes, answerBits_bytes, hb.header, List.flatMap_singleton, byteToBits]
    exact ⟨_, rfl⟩
  have hlength : (verbatimHeaderBits x rows.length n).length = 8 * header.length := by
    rw [← hb.header, flatMap_byteToBits_length]
  obtain ⟨t, ht⟩ : ∃ t, t = u.skip (8 * header.length) := ⟨_, rfl⟩
  have hheader := skip_bytes hu.bitsLeft hsrc
  obtain ⟨htsrc, htbits⟩ := skip_bytes_rest hu.bitsLeft hsrc
  rw [← ht] at hheader htsrc htbits
  obtain ⟨w, hw⟩ : ∃ w, w = ({ t with crc8En := false } : State).skip 8 := ⟨_, rfl⟩
  have hsum := skip_bytes (s := { t with crc8En := false }) htbits htsrc
  obtain ⟨hwsrc, hwbits⟩ := skip_bytes_rest (s := { t with crc8En := false }) htbits htsrc
  rw [show 8 * [crc8Of header].length = 8 from rfl, ← hw] at hsum hwsrc hwbits
  obtain ⟨v, hv⟩ : ∃ v, v = w.skip (8 * body.length) := ⟨_, rfl⟩
  have hbody := skip_bytes hwbits hwsrc
  rw [← hv] at hbody
  have hcrc : crc8Of header = t.crc8 := by rw [hheader.crc8, if_pos hu.crc8.1, hu.crc8.2, crc8Of]
  rw [hcrc] at hahead
  have hhead := drain_header hu.pos hu.sub rfl ⟨hb.channels.1, hb.channels_le⟩ ⟨hb.blockSize.1, hb.blockSize_le⟩
    hb.maxBlock hb.minBlock (by rw [hlength]; exact ht) hahead (m + 2 + rows.length)
  rw [← hw, ← hcrc] at hhead
  have hcrc16 : crc16Of header body = v.crc16 := by
    rw [hbody.crc16, hsum.crc16, hsum.crc16En]
    dsimp only
    rw [hheader.crc16, hheader.crc16En, hu.crc16.1, hu.crc16.2]
    simp only [if_true, crc16Of, List.foldl_append]
  have hwcfg : w.cfg = u.cfg := by rw [hw, skip_cfg, ht, skip_cfg]
  obtain ⟨last, hrun, hpulled⟩ := drain_body (fh := verbatimFields u.si x rows.length n (crc8Of header)) u.sf
    (by rw [hwcfg]; exact hb.frame _) (List.ne_nil_of_length_pos hb.channels.1) hwbits hb.body hb.pad.1 hb.pad.2 hv
    (by rw [← hcrc16]; exact hwsrc) m
  rw [← hcrc16] at hpulled
  exact ⟨last, hhead.trans hrun, hpulled.congr (by simp [hv, hw, ht]) (by simp [hv, hw, ht]) (by simp [hv, hw, ht])
    (by simp [hv, hw, ht])⟩

/-- A command's fuel covers the elements of a frame of at most eight channels. -/
theorem commandFuel_ge {u : State} {channels : Nat} (hc : channels ≤ 8) (hsrc : 3 ≤ u.src.length) :
    ∃ m, commandFuel u = m + 2 + channels + 8 := by
  refine ⟨commandFuel u - (2 + channels + 8), ?_⟩
  rw [commandFuel]
  omega

/-- The record of the frame (R281). -/
theorem frameRecord_verbatimFields (si : StreamInfo) (x : BitVec 7) (channels n : Nat) (crc8 : BitVec 8) (crc : BitVec 16)
    (rows : List (List Int)) :
    frameRecord (verbatimFields si x channels n crc8) crc rows =
      { blocking := false
        number := .frameNumber (x.setWidth 32)
        blockSize := BitVec.ofNat 17 n
        sampleRate := si.rate
        channels := BitVec.ofNat 4 channels
        assignment := .independent
        bitsPerSample := si.bps
        crc8 := crc8
        crc16 := crc
        samples := rows } := by
  simp [frameRecord, recordNumber, verbatimFields]

/-- Settles O60: the sequencer reads back each element of the frame in turn (`drain_frame`), each moves the cursor over its own
bits, and the rows of `SUB` that the subframes write are the rows that the commit copies. -/
theorem pullDecodesVerbatimFrame : Obligations.PullDecodesVerbatimFrame := by
  unfold Obligations.PullDecodesVerbatimFrame
  intro s rows x header body pad rest n w crc8 crc16 hp hstate htotal hchannels hmaxChannels hn hmaxN hmax hmin
    hw _ hwidth hrows hheader hbody hpad hzero hsrc
  clear_value n
  have hb : VerbatimBytes s.cfg s.si rows x n header body pad :=
    ⟨⟨hchannels, hmaxChannels⟩, ⟨hn, hmaxN⟩, hmax, hmin, ⟨hw, hwidth⟩, hrows, hheader, hbody, hpad, hzero⟩
  have hahead : (beginPull s).src = header.map .byte ++ ([crc8Of header].map .byte ++ (body.map .byte ++
      ((footerBytes (crc16Of header body)).map .byte ++ rest))) := by
    refine Eq.trans (show (beginPull s).src = s.src from rfl) (hsrc.trans ?_)
    simp only [List.map_append, List.append_assoc]
    rfl
  obtain ⟨m, hfuel⟩ := commandFuel_ge (u := beginPull s) hb.channels_le (by rw [hahead]; simp [footerBytes]; omega)
  obtain ⟨t, hrun, hpulled⟩ := drain_frame (pullBegun_beginPull s) hb hahead m
  refine ⟨t, ?_, hpulled.state.trans hstate, hpulled.lastResult, hpulled.framesOk, ?_, hpulled.src, hpulled.bitsLeft, ?_, ?_⟩
  · rw [exec_cmdPull_of_ready hp hstate htotal, runCommand, hfuel, hrun]
  · rw [hpulled.samplesOut]
    exact congrArg (s.samplesOut + ·) (BitVec.setWidth_ofNat_of_le_of_lt (by decide)
      (Nat.lt_of_le_of_lt hb.blockSize_le (by decide)))
  · have hout := hpulled.out
    rw [verbatimFields, hb.toNat_blockSize] at hout
    exact hout
  · rw [hpulled.frameOut, frameRecord_verbatimFields]
    rfl

end Sys2Proof.Machine

/-!
The subframe header (R201 to R204): the reserved bit, the reserved types, and the registers, the wasted-bits count and the width check
of each type that selects a decoder.
-/

namespace Sys2Proof.Machine

/-! ### What a subframe refuses before its wasted-bits flag (R201, R202) -/

theorem badSubframeReserved_run {s : State} (h : 1 ≤ s.stream.length) :
    badSubframeReserved s = .error .ended (errorEntry .invalidReservedBit 2 0 (s.skip 1)) := by
  rw [badSubframeReserved, bind_ok (skipBits_ok h), raise_run]

/-- The reserved types are 2 to 7 and 13 to 31, and a row of one is the refusal of its type (R92). -/
theorem exec_of_reservedType {i : Instr} {type : Nat} (h : i.reservedType? = some type) :
    (2 ≤ type ∧ type < 8 ∨ 13 ≤ type ∧ type < 32) ∧ ∀ s, exec i s = outcome (badSubframeType type) s := by
  unfold Instr.reservedType? at h
  split at h
  case h_3 =>
    cases h
    exact ⟨by decide, fun _ => rfl⟩
  case h_6 => cases h
  all_goals
    rename_i x
    cases h
    exact ⟨by have := x.isLt; omega, fun _ => rfl⟩

/-- A reserved type selects nothing, whatever orders are configured (R202). -/
theorem subframeKindOf_reserved (cfg : Config) {type : Nat} (h : 2 ≤ type ∧ type < 8 ∨ 13 ≤ type ∧ type < 32) :
    subframeKindOf cfg type = none := by
  have := cfg.maxFixedOrder.isLt
  exact subframeKindOf_none (by omega) (by omega) (by omega)

/-- A type that selects nothing is refused once its six bits are read (R202). -/
theorem subframeType_refuses {type : Nat} {s t : State} (h : skipBits 6 s = .ok () t) (hkind : subframeKindOf t.cfg type = none) :
    subframeType type s = .error .ended (errorEntry .invalidSubframeType 0 0 { t with sf.type := BitVec.ofNat 6 type }) := by
  rw [subframeType_run h, hkind]

theorem badSubframeType_run {type : Nat} {s : State} (hkind : subframeKindOf s.cfg type = none) (h : 7 ≤ s.stream.length) :
    badSubframeType type s =
      .error .ended (errorEntry .invalidSubframeType 0 0 { s.skip 7 with sf.type := BitVec.ofNat 6 type }) := by
  have hread : skipBits 6 (s.skip 1) = .ok () (s.skip 7) := skipBits_next h
  rw [badSubframeType, bind_ok (skipBits_ok (by omega)), subframeType_refuses hread (by rwa [skip_cfg])]

/-- Settles O41: the reserved bit, and the types that select no decoder under any configuration. -/
theorem reservedSubframes : Obligations.ReservedSubframes := by
  refine fun s => ⟨fun h => ?_, fun i type hi h => ?_⟩
  · exact outcome_ended (badSubframeReserved_run h)
  · obtain ⟨htype, hexec⟩ := exec_of_reservedType hi
    rw [hexec, outcome_ended (badSubframeType_run (subframeKindOf_reserved s.cfg htype) h)]

/-! ### The header of a type that selects a decoder (R202 to R204) -/

/-- The subframe registers once the type is read (R202). -/
def Subframe.withType (sf : Subframe) (type : Nat) (kind : SubframeKind) (order : Nat) : Subframe :=
  { sf with type := BitVec.ofNat 6 type, kind := kind, order := BitVec.ofNat 6 order }

@[simp] theorem withType_fullW (sf : Subframe) (type : Nat) (kind : SubframeKind) (order : Nat) :
    (sf.withType type kind order).fullW = sf.fullW := rfl

/-- The types the rule's table gives a kind and an order select them (R202). -/
theorem subframeKindOf_of_table {cfg : Config} {type order : Nat} {kind : SubframeKind}
    (h : type = 0 ∧ kind = .constant ∧ order = 0 ∨ type = 1 ∧ kind = .verbatim ∧ order = 0 ∨
      (8 ≤ type ∧ type ≤ 8 + cfg.maxFixedOrder.val ∧ kind = .fixed ∧ order = type - 8) ∨
      (32 ≤ type ∧ type ≤ 31 + cfg.maxLpcOrder.val ∧ kind = .lpc ∧ order = type - 31)) :
    subframeKindOf cfg type = some (kind, order) := by
  obtain ⟨rfl, rfl, rfl⟩ | ⟨rfl, rfl, rfl⟩ | ⟨hlo, hhi, rfl, rfl⟩ | ⟨hlo, hhi, rfl, rfl⟩ := h
  · rfl
  · rfl
  · obtain ⟨p, rfl⟩ := Nat.exists_eq_add_of_le hlo
    rw [subframeKindOf_fixed (by omega), Nat.add_sub_cancel_left]
  · obtain ⟨p, rfl⟩ := Nat.exists_eq_add_of_le (show 31 ≤ type by omega)
    rw [subframeKindOf_lpc (by omega) (by omega), Nat.add_sub_cancel_left]

/-- The end of the header: the wasted-bits count and the width that is left are written, and the width is checked (R203, R204). -/
def widthAfterWasted (k : Nat) : M Unit := do
  update fun s => { s with sf.wasted := BitVec.ofNat 6 k }
  update fun s => { s with sf.w := s.sf.fullW - s.sf.wasted }
  let w ← ask fun s => s.sf.w.toNat
  checkWidth w 0

/-- The header once its eight bits are ahead: the type is written, and the wasted-bits count comes next (R201 to R203). -/
theorem subframeHeader_eq {type order : Nat} {kind : SubframeKind} {s : State} (flag : Bool)
    (hkind : subframeKindOf s.cfg type = some (kind, order)) (h : 8 ≤ s.stream.length) :
    subframeHeader type flag s = (wastedCount flag >>= widthAfterWasted) ((s.skip 8).withSf (s.sf.withType type kind order)) := by
  have htype := subframeType_ok (skipBits_next (m := 1) (n := 6) (s := s) (by omega)) (by rwa [skip_cfg])
  have hflag := skipBits_next (m := 7) (n := 1) (s := s.withSf (s.sf.withType type kind order)) h
  rw [skip_sf] at htype
  rw [skip_withSf, skip_withSf] at hflag
  rw [subframeHeader, bind_ok (skipBits_ok (by omega)), bind_ok htype]
  exact bind_ok hflag

theorem toNat_wastedWidth {full : BitVec 6} {k : Nat} (hk : k ≤ full.toNat) :
    (full - BitVec.ofNat 6 k).toNat = full.toNat - k := by
  bv_omega

/-- Everything the end of the header does for a count that the full width covers (R203, R204). -/
theorem widthAfterWasted_run {type order k : Nat} {kind : SubframeKind} {sf : Subframe} (s : State) (hk : k ≤ sf.fullW.toNat) :
    widthAfterWasted k (s.withSf (sf.withType type kind order)) =
      (let t := s.withSf (sf.withHeader type kind order k)
       if 1 ≤ sf.fullW.toNat - k ∧ sf.fullW.toNat - k ≤ s.cfg.maxReadWidth then .ok () t
       else .error .ended (errorEntry .widthOutOfRange 0 0 t)) := by
  rw [← toNat_wastedWidth hk]
  exact checkWidth_run _ 0 (s.withSf (sf.withHeader type kind order k))

/-- The wasted-bits field of a count within the limit (R203). -/
theorem wastedCount_ok {k : Nat} {rest : Bits} {s : State} {sf : Subframe}
    (hk : k < sf.fullW.toNat ∨ k = 1 ∧ sf.fullW.toNat = 1) (h : s.stream = wastedBits k ++ rest) :
    wastedCount (decide (0 < k)) (s.withSf sf) = .ok k ((s.skip k).withSf sf) := by
  cases k with
  | zero => rfl
  | succ q =>
    obtain ⟨hcount, -⟩ := (readUnaryCounts (sf.fullW.toNat - 2) .widthOutOfRange 0 rest (s.withSf sf)).1 q (by omega) h
    rw [skip_withSf] at hcount
    rw [decide_eq_true (Nat.succ_pos q), wastedCount, if_pos rfl, bind_ok (ask_run _ _)]
    exact bind_ok hcount

/-- The first zero past the limit (R203). -/
theorem wastedCount_past {z : Nat} {rest : Bits} {s : State} {sf : Subframe} (hz : z = (sf.fullW.toNat - 2) + 1)
    (h : s.stream = List.replicate z false ++ rest) :
    wastedCount true (s.withSf sf) = .error .ended (errorEntry .widthOutOfRange 0 0 ((s.skip z).withSf sf)) := by
  have hlimit : z = ((sf.fullW.toNat : Int) - 2).toNat + 1 := by omega
  rw [hlimit] at h ⊢
  have hpast := (readUnaryCounts (sf.fullW.toNat - 2) .widthOutOfRange 0 rest (s.withSf sf)).2.1 h
  rw [skip_withSf] at hpast
  rw [wastedCount, if_pos rfl, bind_ok (ask_run _ _)]
  exact bind_error hpast

/-- The eight bits of the header, and what is ahead after them (R201 to R203). -/
theorem headerByte_ahead {type : Nat} {flag : Bool} {bits : Bits} {s : State}
    (h : s.stream = false :: natToBits 6 type ++ flag :: bits) : 8 ≤ s.stream.length ∧ (s.skip 8).stream = bits := by
  rw [List.append_cons] at h
  have hlen : (false :: natToBits 6 type ++ [flag]).length = 8 := by simp
  exact ⟨by rw [h, List.length_append, hlen]; omega, stream_skip_of_ahead h hlen⟩

/-- Settles O42: the type's registers, then the count and the width that is left, or the zero past the limit. -/
theorem subframeHeader_eachKind : Obligations.SubframeHeader := by
  intro type kind order rest s htable
  have hkind := subframeKindOf_of_table htable
  refine ⟨fun k hk h => ?_, fun z hz h => ?_⟩
  all_goals
    rw [List.append_assoc] at h
    obtain ⟨hlen, hahead⟩ := headerByte_ahead h
    rw [subframeHeader_eq _ hkind hlen]
  · have hcount := wastedCount_ok (sf := s.sf.withType type kind order) hk hahead
    have hwidth := widthAfterWasted_run (type := type) (order := order) (kind := kind) (s.skip (8 + k))
      (show k ≤ s.sf.fullW.toNat by unfold State.fullWidthNow at hk; omega)
    rw [← skip_add] at hcount
    rw [skip_cfg] at hwidth
    exact (bind_ok hcount).trans hwidth
  · have hpast := wastedCount_past (sf := s.sf.withType type kind order) hz hahead
    rw [← skip_add] at hpast
    exact bind_error hpast

end Sys2Proof.Machine

/-!
The predictors (R207 to R217): a row of residuals replaced by its samples one after the other, the first sample out of range, and what
follows the last one.
-/

namespace Sys2Proof.Machine

/-! ### The predictions -/

/-- The prediction of a sum with the given coefficients over the samples x, the newest sample's first (R208 to R212, R215). -/
def predicted (coefs : List Int) (shift : Nat) (x : Nat → Int) (i : Nat) : Int :=
  asr ((coefs.mapIdx fun j q => q * x (i - 1 - j)).sum) shift

theorem fixedCoefs_length {p : Nat} (h : p ≤ 4) : (fixedCoefs p).length = p := by
  interval_cases p <;> rfl

/-- The coefficients of each fixed order give its prediction (R208 to R212). -/
theorem predicted_fixedCoefs {p : Nat} (h : p ≤ 4) (x : Nat → Int) (i : Nat) :
    predicted (fixedCoefs p) 0 x i = fixedPrediction p x i := by
  interval_cases p <;> simp [predicted, fixedCoefs, fixedPrediction, asr, Nat.sub_sub] <;> ring

/-- The first p of the LPC coefficients, as numbers. -/
def lpcCoefficients (lpc : Lpc) (p : Nat) : List Int := (lpc.qlp.toList.take p).map BitVec.toInt

theorem lpcCoefficients_length (lpc : Lpc) {p : Nat} (h : p ≤ 32) : (lpcCoefficients lpc p).length = p := by
  simp [lpcCoefficients, h]

theorem lpcCoefficients_mapIdx (lpc : Lpc) {p : Nat} (h : p ≤ 32) (f : Nat → Int → Int) :
    (lpcCoefficients lpc p).mapIdx f = (List.range p).map fun j => f j (lpc.qlp[j]?.getD 0).toInt := by
  refine List.ext_getElem (by simp [lpcCoefficients_length lpc h]) fun j hj _ => ?_
  have : j < 32 := by simp [lpcCoefficients_length lpc h] at hj; omega
  simp [lpcCoefficients, this]

/-- The floor of the shift is the division that rounds toward minus infinity (R10). -/
theorem predicted_lpcCoefficients (lpc : Lpc) {p : Nat} (h : p ≤ 32) (x : Nat → Int) (i : Nat) :
    predicted (lpcCoefficients lpc p) lpc.shift.toNat x i = lpcPrediction lpc p x i := by
  rw [predicted, asr, lpcCoefficients_mapIdx lpc h, lpcPrediction, Int.fdiv_eq_ediv_of_nonneg _ (by positivity)]

/-- The prediction of a FIXED or LPC subframe over the samples x. -/
def predictionOf (sf : Subframe) (lpc : Lpc) : (Nat → Int) → Nat → Int :=
  if sf.kind = .fixed then fixedPrediction sf.order.toNat else lpcPrediction lpc sf.order.toNat

/-- A subframe that has a predictor: FIXED of order 0 to 4, LPC of order up to 32 (R202). -/
def Subframe.HasPredictor (sf : Subframe) : Prop :=
  sf.kind = .fixed ∧ sf.order.toNat ≤ 4 ∨ sf.kind = .lpc ∧ sf.order.toNat ≤ 32

/-- The coefficients and the shift of a subframe's predictor: as many as the order, and they make its prediction. -/
structure IsPredictor (sf : Subframe) (lpc : Lpc) (coefs : List Int) (shift : Nat) : Prop where
  predictor : predictorOf sf lpc = (coefs, shift)
  length : coefs.length = sf.order.toNat
  predicted : predicted coefs shift = predictionOf sf lpc

theorem Subframe.HasPredictor.exists_isPredictor {sf : Subframe} (h : sf.HasPredictor) (lpc : Lpc) :
    ∃ coefs shift, IsPredictor sf lpc coefs shift := by
  obtain ⟨hkind, hp⟩ | ⟨hkind, hp⟩ := h
  · refine ⟨fixedCoefs sf.order.toNat, 0, by rw [predictorOf, hkind], fixedCoefs_length hp, ?_⟩
    rw [predictionOf, if_pos hkind]
    exact funext₂ (predicted_fixedCoefs hp)
  · refine ⟨lpcCoefficients lpc sf.order.toNat, lpc.shift.toNat, by rw [predictorOf, hkind]; rfl,
      lpcCoefficients_length lpc hp, ?_⟩
    rw [predictionOf, if_neg (by simp [hkind])]
    exact funext₂ (predicted_lpcCoefficients lpc hp)

/-! ### One sample -/

/-- One turn of the predictor: entry i of row c, a residual, becomes its sample (R207, R215). -/
def predictSample (c : Nat) (coefs : List Int) (shift w i : Nat) : M Unit := do
  let acc ← historySum c coefs i
  let e ← readSample c i
  let v := asr acc shift + e
  rangeCheckSample w v
  writeSample c i v

/-- RANGE_CHECK_SAMPLE (R216). -/
theorem rangeCheckSample_run (w : Nat) (v : Int) (s : State) :
    rangeCheckSample w v s =
      if s.cfg.rangeCheck = true ∧ inRange w v = false then .error .ended (errorEntry .valueOutOfRange 0 0 s) else .ok () s := by
  rw [rangeCheckSample, bind_ok (ask_run _ _), raiseIf_run]
  simp

/-- The row of the subframe in `s` holds e, its warmup samples and then its residuals, and x are its samples (R207, R215). -/
structure Predicts (s : State) (e x : Nat → Int) : Prop where
  kind : s.sf.HasPredictor
  channel : s.sf.ch.toNat < s.cfg.maxChannels.val
  block : s.fh.blockSize.toNat ≤ s.cfg.maxBlock.val
  held : s.sub.Holds s.sf.ch.toNat 0 s.fh.blockSize.toNat e
  warmup : ∀ i < s.sf.order.toNat, x i = e i
  sample : ∀ i < s.fh.blockSize.toNat, s.sf.order.toNat ≤ i → x i = predictionOf s.sf s.lpc x i + e i

/-- The row from index m on as it was before the first m entries were written. -/
theorem RowWritten.holds_rest {before after : SampleRam} {c m n : Nat} {e x : Nat → Int} (h : RowWritten before after c 0 m x)
    (held : before.Holds c 0 n e) : after.Holds c m n e := fun i hi hlo => by
  rw [h.sameBut _ fun j hj _ => sampleKey_ne_of_index (by omega), held i hi (Nat.zero_le i)]

/-- Entries of a longer stretch of the row are left alone. -/
theorem SampleRam.SameBut.mono {before after : SampleRam} {c lo hi hi' : Nat} (h : before.SameBut after c lo hi) (hle : hi ≤ hi') :
    before.SameBut after c lo hi' := fun key hkey => h key fun i hi => hkey i (hi.trans_le hle)

/-! ### The row -/

/-- A loop stops at the first turn that does not answer. -/
theorem forRange_error {f : Nat → M Unit} {start k n : Nat} {s t u : State} {e : Stop} (hk : k < n)
    (hbefore : forRange start k f s = .ok () t) (hturn : f (start + k) t = .error e u) : forRange start n f s = .error e u := by
  induction k generalizing start n s with
  | zero =>
    obtain ⟨n, rfl⟩ := Nat.exists_eq_succ_of_ne_zero (Nat.ne_zero_of_lt hk)
    cases hbefore
    exact bind_error hturn
  | succ k ih =>
    obtain ⟨n, rfl⟩ := Nat.exists_eq_succ_of_ne_zero (Nat.ne_zero_of_lt hk)
    obtain ⟨⟨⟩, v, hfirst, hrest⟩ := bind_eq_ok.mp hbefore
    exact (bind_ok hfirst).trans (ih (Nat.lt_of_succ_lt_succ hk) hrest (by rwa [Nat.add_right_comm]))

/-- After a subframe's body: the row shifted by the wasted bits, then the channel loop goes on (R200, R217). -/
theorem finishSubframe_ok {f : Nat → Int} {s : State} (hc : s.sf.ch.toNat < s.cfg.maxChannels.val)
    (hn : s.fh.blockSize.toNat ≤ s.cfg.maxBlock.val) (held : s.sub.Holds s.sf.ch.toNat 0 s.fh.blockSize.toNat f) :
    ∃ sub, finishSubframe s = startChannel (s.sf.ch.toNat + 1) (s.withSub sub) ∧
      RowWritten s.sub sub s.sf.ch.toNat 0 s.fh.blockSize.toNat fun i => f i * 2 ^ s.sf.wasted.toNat := by
  obtain ⟨sub, hshift, hrow⟩ := wastedShift_ok s.sf.wasted.toNat hc hn held
  exact ⟨sub, bind_ok hshift, hrow⟩

/-- After the last residual: the turns of the predictor, then the end of the subframe. -/
theorem reconstructSubframe_eq {s : State} {coefs : List Int} {shift : Nat} (h : predictorOf s.sf s.lpc = (coefs, shift)) :
    reconstructSubframe s =
      (do forRange s.sf.order.toNat (s.fh.blockSize.toNat - s.sf.order.toNat)
            (predictSample s.sf.ch.toNat coefs shift s.sf.w.toNat)
          finishSubframe) s := by
  rw [reconstructSubframe, bind_ok (ask_run _ _), bind_ok (ask_run _ _), bind_ok (ask_run _ _), h]
  rfl

/-- From `s` the samples x have been written into the first i entries of the subframe's row, and nothing else has changed. -/
def SamplesUpTo (s : State) (x : Nat → Int) (i : Nat) (t : State) : Prop :=
  ∃ sub, t = s.withSub sub ∧ RowWritten s.sub sub s.sf.ch.toNat 0 i x

namespace Predicts

variable {s : State} {e x : Nat → Int} {coefs : List Int} {shift : Nat}

/-- The turn for entry i, the samples before it in the row (R207, R215, R216). -/
theorem predictSample_run (h : Predicts s e x) (hpred : IsPredictor s.sf s.lpc coefs shift) {i : Nat} {sub : SampleRam}
    (hp : s.sf.order.toNat ≤ i) (hi : i < s.fh.blockSize.toNat) (hrow : RowWritten s.sub sub s.sf.ch.toNat 0 i x) :
    predictSample s.sf.ch.toNat coefs shift s.sf.w.toNat i (s.withSub sub) =
      if s.cfg.rangeCheck = true ∧ inRange s.sf.w.toNat (x i) = false then
        .error .ended (errorEntry .valueOutOfRange 0 0 (s.withSub sub))
      else .ok () (s.withSub (SampleRam.write (sampleKey s.sf.ch.toNat i) (x i) sub)) := by
  have hlen := hpred.length
  have hblock := hi.trans_le h.block
  have hsum := historySum_run (s := s.withSub sub) (x := x) h.channel coefs i hblock.le (hlen.trans_le hp)
    fun j hj => hrow.holds _ (by omega) (Nat.zero_le _)
  have hread := readSample_ok (s := s.withSub sub) h.channel hblock (hrow.holds_rest h.held i hi le_rfl)
  have hvalue : asr ((coefs.mapIdx fun j q => q * x (i - 1 - j)).sum) shift + e i = x i := by
    rw [h.sample i hi hp, ← hpred.predicted, predicted]
  rw [predictSample, bind_ok hsum, bind_ok hread]
  simp only [hvalue]
  rw [bind_run, rangeCheckSample_run, withSub_cfg]
  split_ifs
  · rfl
  · exact writeSample_ok (x i) h.channel hblock

/-- A turn whose sample is in range. -/
theorem predictSample_ok (h : Predicts s e x) (hpred : IsPredictor s.sf s.lpc coefs shift) {i : Nat} {t : State}
    (hp : s.sf.order.toNat ≤ i) (hi : i < s.fh.blockSize.toNat)
    (hin : s.cfg.rangeCheck = true → inRange s.sf.w.toNat (x i) = true) (ht : SamplesUpTo s x i t) :
    ∃ u, predictSample s.sf.ch.toNat coefs shift s.sf.w.toNat i t = .ok () u ∧ SamplesUpTo s x (i + 1) u := by
  obtain ⟨sub, rfl, hrow⟩ := ht
  have hpass : ¬(s.cfg.rangeCheck = true ∧ inRange s.sf.w.toNat (x i) = false) :=
    fun ⟨hcheck, hout⟩ => Bool.false_ne_true (hout.symm.trans (hin hcheck))
  rw [h.predictSample_run hpred hp hi hrow, if_neg hpass]
  exact ⟨_, rfl, _, rfl, hrow.snoc (Nat.zero_le i)⟩

/-- The turns up to an entry, every sample before it in range. -/
theorem predictSamples_ok (h : Predicts s e x) (hpred : IsPredictor s.sf s.lpc coefs shift) {m : Nat}
    (hp : s.sf.order.toNat ≤ m) (hm : m ≤ s.fh.blockSize.toNat)
    (hin : s.cfg.rangeCheck = true → ∀ i < m, s.sf.order.toNat ≤ i → inRange s.sf.w.toNat (x i) = true) :
    ∃ t, forRange s.sf.order.toNat (m - s.sf.order.toNat) (predictSample s.sf.ch.toNat coefs shift s.sf.w.toNat) s =
        .ok () t ∧ SamplesUpTo s x m t := by
  have hwarm : RowWritten s.sub s.sub s.sf.ch.toNat 0 s.sf.order.toNat x :=
    ⟨fun i hi _ => by rw [h.held i (by omega) (Nat.zero_le i), h.warmup i hi], fun _ _ => rfl⟩
  obtain ⟨t, hrun, ht⟩ := forRange_ok (P := SamplesUpTo s x) (n := m - s.sf.order.toNat)
    (fun i t hlo hi => h.predictSample_ok hpred hlo (by omega) fun hcheck => hin hcheck i (by omega) hlo)
    ⟨s.sub, rfl, hwarm⟩
  rw [Nat.add_sub_cancel' hp] at ht
  exact ⟨t, hrun, ht⟩

/-- The row predicted, every sample in range: the row ends as the samples shifted by the wasted bits, and the channel loop goes on
(R207, R215, R217). -/
theorem reconstructSubframe_ok (h : Predicts s e x) (hp : s.sf.order.toNat ≤ s.fh.blockSize.toNat)
    (hin : s.cfg.rangeCheck = true →
      ∀ i < s.fh.blockSize.toNat, s.sf.order.toNat ≤ i → inRange s.sf.w.toNat (x i) = true) :
    ∃ sub, reconstructSubframe s = startChannel (s.sf.ch.toNat + 1) (s.withSub sub) ∧
      RowWritten s.sub sub s.sf.ch.toNat 0 s.fh.blockSize.toNat fun i => x i * 2 ^ s.sf.wasted.toNat := by
  obtain ⟨coefs, shift, hpred⟩ := h.kind.exists_isPredictor s.lpc
  obtain ⟨_, hrun, sub, rfl, hrow⟩ := h.predictSamples_ok hpred hp le_rfl hin
  obtain ⟨sub', hfinish, hrow'⟩ := finishSubframe_ok (s := s.withSub sub) h.channel h.block hrow.holds
  exact ⟨sub', (reconstructSubframe_eq hpred.predictor).trans ((bind_ok hrun).trans hfinish), hrow.trans hrow'⟩

/-- The first sample out of range ends the PULL, the samples before it in the row (R216). -/
theorem reconstructSubframe_refuses (h : Predicts s e x) {m : Nat} (hcheck : s.cfg.rangeCheck = true)
    (hp : s.sf.order.toNat ≤ m) (hm : m < s.fh.blockSize.toNat)
    (hin : ∀ i < m, s.sf.order.toNat ≤ i → inRange s.sf.w.toNat (x i) = true) (hout : inRange s.sf.w.toNat (x m) = false) :
    ∃ sub, reconstructSubframe s = .error .ended (errorEntry .valueOutOfRange 0 0 (s.withSub sub)) ∧
      RowWritten s.sub sub s.sf.ch.toNat 0 m x := by
  obtain ⟨coefs, shift, hpred⟩ := h.kind.exists_isPredictor s.lpc
  obtain ⟨_, hrun, sub, rfl, hrow⟩ := h.predictSamples_ok hpred hp hm.le fun _ => hin
  have hturn := (h.predictSample_run hpred hp hm hrow).trans (if_pos ⟨hcheck, hout⟩)
  rw [← Nat.add_sub_cancel' hp] at hturn
  have hrowRun := forRange_error (n := s.fh.blockSize.toNat - s.sf.order.toNat) (by omega) hrun hturn
  exact ⟨sub, (reconstructSubframe_eq hpred.predictor).trans (bind_error hrowRun), hrow⟩

end Predicts

/-! ### FIXED and LPC subframes -/

/-- With every sample in range nothing changes but the row, which ends as the shifted samples, and the next subframe is set up (R207 to
R217). -/
theorem Predicts.exists_samplesShifted {s : State} {e x : Nat → Int} (h : Predicts s e x)
    (hp : s.sf.order.toNat ≤ s.fh.blockSize.toNat)
    (hin : s.cfg.rangeCheck = true →
      ∀ i < s.fh.blockSize.toNat, s.sf.order.toNat ≤ i → inRange s.sf.w.toNat (x i) = true) :
    ∃ t : State, { t with sub := s.sub } = s ∧
      t.sub.Holds s.sf.ch.toNat 0 s.fh.blockSize.toNat (fun i => x i * 2 ^ s.sf.wasted.toNat) ∧
      s.sub.SameBut t.sub s.sf.ch.toNat 0 s.fh.blockSize.toNat ∧
      reconstructSubframe s = startChannel (s.sf.ch.toNat + 1) t ∧
      (s.sf.ch.toNat + 1 < s.fh.channels.toNat →
        outcome reconstructSubframe s = .next (t.atSubframe (s.sf.ch.toNat + 1))) := by
  obtain ⟨sub, hrun, hrow⟩ := h.reconstructSubframe_ok hp hin
  exact ⟨s.withSub sub, rfl, hrow.holds, hrow.sameBut, hrun, fun hc => outcome_ok (hrun.trans (startChannel_next hc))⟩

/-- Settles O53: the fixed coefficients make the prediction of their order (`predicted_fixedCoefs`), so each turn writes a sample. -/
theorem fixedPrediction_samples : Obligations.FixedPrediction := by
  intro e x s
  dsimp only
  intro hkind hp hpn hc hn held hwarm hsample hin
  refine Predicts.exists_samplesShifted ⟨.inl ⟨hkind, hp⟩, hc, hn, held, hwarm, ?_⟩ hpn hin
  rwa [predictionOf, if_pos hkind]

/-- Settles O54: the coefficients up to the order make the prediction (`predicted_lpcCoefficients`), so each turn writes a sample. -/
theorem lpcPrediction_samples : Obligations.LpcPrediction := by
  intro e x s
  dsimp only
  intro hkind _ hp hpn hc hn held hwarm hsample hin
  refine Predicts.exists_samplesShifted ⟨.inr ⟨hkind, hp⟩, hc, hn, held, hwarm, ?_⟩ hpn hin
  rwa [predictionOf, if_neg (by simp [hkind])]

/-- Settles O55: the turns before the first sample out of range write theirs, and that one's ends the loop (`forRange_error`). -/
theorem predictionRangeError : Obligations.PredictionRangeError := by
  intro e x m s
  dsimp only
  intro hkind hc hn held hwarm hsample hcheck hp hm hin hout
  obtain ⟨sub, hrun, hrow⟩ :=
    Predicts.reconstructSubframe_refuses ⟨hkind, hc, hn, held, hwarm, hsample⟩ hcheck hp hm hin hout
  exact ⟨s.withSub sub, rfl, hrow.holds, hrow.holds_rest held, hrow.sameBut.mono hm.le, hrun⟩

end Sys2Proof.Machine

/-!
FOLD and the Rice codeword (R236, R237, R239): each value's unsigned number, and the value read back from its codeword.
-/

namespace Sys2Proof.Machine

/-! ### FOLD (R237) -/

theorem fold_even (u : Nat) : fold (2 * u) = u := by
  rw [fold, if_pos (Nat.mul_mod_right 2 u), Nat.mul_div_cancel_left u (Nat.zero_lt_succ 1)]

theorem fold_odd (u : Nat) : fold (2 * u + 1) = -((u : Int) + 1) := by
  rw [fold, if_neg (by omega), show (2 * u + 1) / 2 = u by omega]
  omega

theorem unfold_natCast (u : Nat) : unfold u = 2 * u := by
  rw [unfold, if_pos (Int.natCast_nonneg u)]
  omega

theorem unfold_neg (u : Nat) : unfold (-((u : Int) + 1)) = 2 * u + 1 := by
  rw [unfold, if_neg (by omega)]
  omega

theorem fold_unfold (v : Int) : fold (unfold v) = v := by
  obtain ⟨u, rfl⟩ | ⟨u, rfl⟩ : (∃ u : Nat, v = u) ∨ ∃ u : Nat, v = -((u : Int) + 1) := by
    obtain h | h := lt_or_ge v 0
    · exact .inr ⟨(-v - 1).toNat, by omega⟩
    · exact .inl ⟨v.toNat, by omega⟩
  · rw [unfold_natCast, fold_even]
  · rw [unfold_neg, fold_odd]

theorem unfold_fold (u : Nat) : unfold (fold u) = u := by
  obtain ⟨w, rfl | rfl⟩ := Nat.even_or_odd' u
  · rw [fold_even, unfold_natCast]
  · rw [fold_odd, unfold_neg]

/-- The u below 2^32 are those of the 32-bit values. -/
theorem unfold_lt {v : Int} (hlo : -(2 ^ 31 : Int) ≤ v) (hhi : v ≤ 2 ^ 31 - 1) : unfold v < 2 ^ 32 := by
  rw [unfold]
  split_ifs <;> omega

/-- Settles O52: on the even and the odd naturals FOLD and its inverse are the two halves of the rule. -/
theorem foldIsABijection : Obligations.FoldIsABijection := by
  refine ⟨fun u => ⟨fold_even u, fold_odd u⟩, fold_unfold, unfold_fold, fun u => ?_, fun u hu => ?_⟩
  all_goals
    obtain ⟨w, rfl | rfl⟩ := Nat.even_or_odd' u
    · rw [fold_even]
      omega
    · rw [fold_odd]
      omega

/-! ### Codewords -/

/-- `read` reads v back from its code, wherever the code is ahead, and moves the cursor over it. -/
def ReadsValue (read : M Int) (code : Int → Bits) (v : Int) : Prop :=
  ∀ (s : State) (rest : Bits), s.stream = code v ++ rest →
    read s = .ok v (s.skip (code v).length) ∧ (s.skip (code v).length).stream = rest

theorem readsValue_readS {n : Nat} {v : Int} (h : fits n v = true) : ReadsValue (readS n) (signedBits n) v := fun s rest hs => by
  rw [signedBits_length]
  exact (readSignedField).2 n v rest s h hs

theorem riceBits_length (k : Nat) (v : Int) : (riceBits k v).length = unfold v / 2 ^ k + 1 + k := by
  simp [riceBits, unaryBits, Nat.add_assoc, Nat.add_comm]

/-- The quotient of a 32-bit value is within the limit (R236). -/
theorem quotient_le {k : Nat} {v : Int} (hk : k ≤ 32) (hlo : -(2 ^ 31 : Int) ≤ v) (hhi : v ≤ 2 ^ 31 - 1) :
    ((unfold v / 2 ^ k : Nat) : Int) ≤ 2 ^ (32 - k) - 1 := by
  have hpow : 2 ^ (32 - k) * 2 ^ k = 2 ^ 32 := by rw [← Nat.pow_add, Nat.sub_add_cancel hk]
  have hlt : unfold v / 2 ^ k < 2 ^ (32 - k) := Nat.div_lt_of_lt_mul (by rw [Nat.mul_comm, hpow]; exact unfold_lt hlo hhi)
  zify at hlt
  exact Int.le_sub_one_of_lt hlt

/-- RICE(k) of a 32-bit value's codeword: the quotient in unary, the remainder in k bits (R236, R237). -/
theorem readsValue_readRice {k : Nat} {v : Int} (hk : k ≤ 32) (hlo : -(2 ^ 31 : Int) ≤ v) (hhi : v ≤ 2 ^ 31 - 1) :
    ReadsValue (readRice k) (riceBits k) v := fun s rest hs => by
  rw [riceBits, List.append_assoc] at hs
  obtain ⟨hunary, hnext⟩ := (readUnaryCounts (2 ^ (32 - k) - 1) .valueOutOfRange 1 _ s).1 _ (.inl (quotient_le hk hlo hhi)) hs
  obtain ⟨hremainder, hrest⟩ := readU_ok (Nat.mod_lt _ (Nat.two_pow_pos k)) hnext
  rw [riceBits_length, skip_add]
  refine ⟨?_, hrest⟩
  rw [readRice, bind_ok hunary, bind_ok hremainder, pure_run, Nat.div_add_mod', fold_unfold]

/-- Zeros up to the quotient's limit and one more (R236, R239). -/
theorem readRice_limit {k : Nat} {rest : Bits} {s : State} (h : s.stream = List.replicate (2 ^ (32 - k)) false ++ rest) :
    readRice k s = .error .ended (errorEntry .valueOutOfRange 1 0 (s.skip (2 ^ (32 - k)))) := by
  have hlimit : ((2 : Int) ^ (32 - k) - 1).toNat + 1 = 2 ^ (32 - k) := by
    have hpos : 0 < 2 ^ (32 - k) := Nat.two_pow_pos _
    have hcast : ((2 ^ (32 - k) : Nat) : Int) = 2 ^ (32 - k) := by push_cast; rfl
    omega
  rw [← hlimit] at h ⊢
  exact bind_error ((readUnaryCounts _ .valueOutOfRange 1 rest s).2.1 h)

/-- Settles O51: `readsValue_readRice` and `readRice_limit` at a parameter up to 30. -/
theorem riceRoundTrip : Obligations.RiceRoundTrip :=
  fun _ rest s hk => ⟨fun _ hlo hhi h => readsValue_readRice (by omega) hlo hhi s rest h, readRice_limit⟩

end Sys2Proof.Machine

/-!
The residual decoder's elements (R230 to R235): the coding method and the partition order, and a partition's values with what follows
them.
-/

namespace Sys2Proof.Machine

/-! ### The residual registers -/

/-- The registers the coding method writes: the method and the width of its parameters (R231). -/
def Residual.withMethod (method : Nat) (r : Residual) : Residual :=
  { r with method := BitVec.ofNat 2 method, pw := BitVec.ofNat 3 (4 + method) }

/-- `RES_PORDER` written (R231). -/
def Residual.withPorder (porder : BitVec 4) (r : Residual) : Residual := { r with porder := porder }

/-- `RES_PART` written (R230). -/
def Residual.withPart (part : BitVec 16) (r : Residual) : Residual := { r with part := part }

/-- `RES_PARAM` written (R234). -/
def Residual.withParam (param : BitVec 5) (r : Residual) : Residual := { r with param := param }

/-- `RES_ESCBITS` written (R235). -/
def Residual.withEscBits (escBits : BitVec 5) (r : Residual) : Residual := { r with escBits := escBits }

@[simp] theorem withPorder_porder (porder : BitVec 4) (r : Residual) : (r.withPorder porder).porder = porder := rfl

/-- A write of the residual registers (R31). -/
def State.mapRes (s : State) (f : Residual → Residual) : State := { s with res := f s.res }

theorem skip_mapRes (n : Nat) (f : Residual → Residual) (s : State) : (s.mapRes f).skip n = (s.skip n).mapRes f := by
  unfold State.mapRes
  rw [skip_with_res, skip_res]

@[simp] theorem mapRes_cfg (s : State) (f : Residual → Residual) : (s.mapRes f).cfg = s.cfg := rfl

@[simp] theorem mapRes_fh (s : State) (f : Residual → Residual) : (s.mapRes f).fh = s.fh := rfl

@[simp] theorem mapRes_sf (s : State) (f : Residual → Residual) : (s.mapRes f).sf = s.sf := rfl

@[simp] theorem mapRes_res (s : State) (f : Residual → Residual) : (s.mapRes f).res = f s.res := rfl

@[simp] theorem mapRes_sub (s : State) (f : Residual → Residual) : (s.mapRes f).sub = s.sub := rfl

@[simp] theorem mapRes_stream (s : State) (f : Residual → Residual) : (s.mapRes f).stream = s.stream := rfl

/-! ### The coding method and the partition order (R231, R232) -/

/-- PARTITION_CHECK (R232). -/
theorem partitionCheck_run (s : State) :
    partitionCheck s =
      if s.fh.blockSize.toNat % 2 ^ s.res.porder.toNat ≠ 0 then .error .ended (errorEntry .invalidPartition 0 0 s)
      else if s.fh.blockSize.toNat / 2 ^ s.res.porder.toNat < s.sf.order.toNat then
        .error .ended (errorEntry .invalidPartition 1 0 s)
      else .ok () s := by
  rw [partitionCheck, bind_ok (ask_run _ _), bind_run, raiseIf_run]
  simp only [id_eq, bne_iff_ne, ne_eq, raiseIf_run, decide_eq_true_eq, Nat.shiftRight_eq_div_pow]
  split_ifs <;> rfl

/-- The method's two bits, then the order's four. -/
theorem residualHeader_run {s : State} (method : Nat) (porder : BitVec 4) (h : 2 ≤ s.stream.length) :
    residualHeader method porder s =
      (do skipBits 4
          update (State.mapRes · (Residual.withPorder porder))
          partitionCheck
          update (State.mapRes · (Residual.withPart 0))
          goto (partitionPosition method)) ((s.skip 2).mapRes (Residual.withMethod method)) :=
  bind_ok (skipBits_ok h)

/-- The header whose bits are ahead: the registers are written, then the two checks are made (R231, R232). -/
theorem residualHeader_ok {s : State} (method : Nat) (porder : BitVec 4) (h : 6 ≤ s.stream.length) :
    residualHeader method porder s =
      (let t := ((s.skip 6).mapRes (Residual.withMethod method)).mapRes (Residual.withPorder porder)
       if s.fh.blockSize.toNat % 2 ^ porder.toNat ≠ 0 then .error .ended (errorEntry .invalidPartition 0 0 t)
       else if s.fh.blockSize.toNat / 2 ^ porder.toNat < s.sf.order.toNat then
         .error .ended (errorEntry .invalidPartition 1 0 t)
       else .ok () { t.mapRes (Residual.withPart 0) with seq.pos := partitionPosition method }) := by
  have horder : skipBits 4 ((s.skip 2).mapRes (Residual.withMethod method)) =
      .ok () ((s.skip 6).mapRes (Residual.withMethod method)) := by
    rw [← skip_mapRes, ← skip_mapRes]
    exact skipBits_next h
  have hcheck := partitionCheck_run (((s.skip 6).mapRes (Residual.withMethod method)).mapRes (Residual.withPorder porder))
  simp only [mapRes_fh, mapRes_sf, mapRes_res, withPorder_porder, skip_fh, skip_sf] at hcheck
  rw [residualHeader_run method porder (by omega), bind_ok horder, bind_ok (update_run _ _), bind_run, hcheck]
  dsimp only
  split_ifs <;> rfl

/-- Where the data ends before or inside the partition order, the method is written (R133, R305). -/
theorem residualHeader_short {s : State} (method : Nat) (porder : BitVec 4) (h2 : 2 ≤ s.stream.length)
    (h6 : s.stream.length < 6) :
    residualHeader method porder s =
      .error .ended ((s.skip s.stream.length).mapRes (Residual.withMethod method)).noByte := by
  have hlen : ((s.skip 2).mapRes (Residual.withMethod method)).stream.length = s.stream.length - 2 := by
    rw [mapRes_stream, stream_skip h2, List.length_drop]
  have hshort := skipBits_short (n := 4) (s := (s.skip 2).mapRes (Residual.withMethod method)) (by omega)
  rw [hlen, skip_mapRes, ← skip_add, Nat.add_sub_cancel' h2] at hshort
  rw [residualHeader_run method porder h2, bind_error hshort]

theorem badCodingMethod_run {s : State} (method : Nat) (h : 2 ≤ s.stream.length) :
    badCodingMethod method s =
      .error .ended (errorEntry .invalidCodingMethod 0 0 { s.skip 2 with res.method := BitVec.ofNat 2 method }) := by
  rw [badCodingMethod, bind_ok (skipBits_ok h), bind_ok (update_run _ _), raise_run]

/-- The rows of the methods 0 and 1 (R97). -/
theorem exec_resMethod {method : Nat} (h : method = 0 ∨ method = 1) (porder : BitVec 4) (s : State) :
    exec (if method = 0 then .resMethod0 porder else .resMethod1 porder) s = outcome (residualHeader method porder) s := by
  obtain rfl | rfl := h <;> rfl

/-- Settles O48: the header whose bits are ahead by the two checks, the header cut short, and the refused methods. -/
theorem residualHeader_methods : Obligations.ResidualHeader := by
  refine fun s => ⟨fun porder m hm h => ?_, fun porder m hm h2 h6 => ?_, fun x h => ?_⟩
  · have hrun := residualHeader_ok m porder h
    rw [exec_resMethod hm]
    dsimp only [State.mapRes, Residual.withMethod, Residual.withPorder, Residual.withPart, partitionPosition] at hrun ⊢
    by_cases hdivides : s.fh.blockSize.toNat % 2 ^ porder.toNat ≠ 0
    · rw [if_pos hdivides] at hrun ⊢
      exact outcome_ended hrun
    · rw [if_neg hdivides] at hrun ⊢
      by_cases hshort : s.fh.blockSize.toNat / 2 ^ porder.toNat < s.sf.order.toNat
      · rw [if_pos hshort] at hrun ⊢
        exact outcome_ended hrun
      · rw [if_neg hshort] at hrun ⊢
        exact outcome_ok hrun
  · rw [exec_resMethod hm, outcome_ended (residualHeader_short m porder h2 h6)]
    rfl
  · have hrow : exec (.resMethod2To3 x) s = outcome (badCodingMethod (2 + x.toNat)) s := rfl
    rw [hrow, outcome_ended (badCodingMethod_run _ h)]

/-! ### A partition's values (R230, R233) -/

/-- The index of the current partition's first value (R230). -/
def State.partitionStart (s : State) : Nat :=
  partStart s.fh.blockSize.toNat s.sf.order.toNat s.res.porder.toNat s.res.part.toNat

theorem partitionStart_eq (s : State) :
    s.partitionStart =
      if s.res.part.toNat = 0 then s.sf.order.toNat
      else s.res.part.toNat * (s.fh.blockSize.toNat / 2 ^ s.res.porder.toNat) := by
  rw [State.partitionStart, partStart, Nat.shiftRight_eq_div_pow]

theorem partSize_eq (n p o j : Nat) : partSize n p o j = if j = 0 then n / 2 ^ o - p else n / 2 ^ o := by
  rw [partSize, Nat.shiftRight_eq_div_pow]

/-- The values vs are as many as the current partition has, and their entries exist. -/
structure PartitionFits (vs : List Int) (s : State) : Prop where
  channel : s.sf.ch.toNat < s.cfg.maxChannels.val
  size : vs.length =
    if s.res.part.toNat = 0 then s.fh.blockSize.toNat / 2 ^ s.res.porder.toNat - s.sf.order.toNat
    else s.fh.blockSize.toNat / 2 ^ s.res.porder.toNat
  block : s.partitionStart + vs.length ≤ s.cfg.maxBlock.val

/-- Values whose codes are ahead are read into a row. -/
theorem readSamples_readsValue {c i : Nat} {read : M Int} {code : Int → Bits} {vs : List Int} {rest : Bits} {s : State}
    (hc : c < s.cfg.maxChannels.val) (hi : i + vs.length ≤ s.cfg.maxBlock.val) (hvs : ∀ v ∈ vs, ReadsValue read code v)
    (h : s.stream = vs.flatMap code ++ rest) :
    ∃ sub, readSamples c read i vs.length s = .ok () ((s.skip (vs.flatMap code).length).withSub sub) ∧
      RowWritten s.sub sub c i (i + vs.length) (rowFrom i vs) := by
  induction vs generalizing i s with
  | nil => exact ⟨s.sub, rfl, .refl _ _ _ _⟩
  | cons v vs ih =>
    rw [List.flatMap_cons, List.append_assoc] at h
    rw [List.length_cons] at hi ⊢
    obtain ⟨hv, hvs⟩ := List.forall_mem_cons.mp hvs
    obtain ⟨hread, hahead⟩ := hv s _ h
    have hwrite := writeSample_ok (c := c) (i := i) v (s := s.skip (code v).length) (by rwa [skip_cfg])
      (by rw [skip_cfg]; omega)
    rw [skip_sub] at hwrite
    obtain ⟨sub, hrun, hrow⟩ := ih (i := i + 1)
      (s := (s.skip (code v).length).withSub (SampleRam.write (sampleKey c i) v s.sub))
      (by rwa [withSub_cfg, skip_cfg]) (by rw [withSub_cfg, skip_cfg]; omega) hvs hahead
    refine ⟨sub, ?_, .cons (by omega) ?_⟩
    · rw [readSamples, bind_ok hread, bind_ok hwrite, hrun, skip_withSub, withSub_withSub, ← skip_add, List.flatMap_cons,
        List.length_append]
    · have hfirst : rowFrom i (v :: vs) i = v := by simp [rowFrom]
      rw [hfirst, show i + (vs.length + 1) = i + 1 + vs.length by omega]
      exact hrow.congr fun j hlo _ => (rowFrom_succ v vs hlo).symm

/-- Ready for the parameter of partition j, read at `p` (R230). -/
def State.atPartition (s : State) (j : Nat) (p : Position) : State := { s with res.part := BitVec.ofNat 16 j, seq.pos := p }

/-- The next partition (R230). -/
theorem nextPartition_next {s : State} (h : s.res.part.toNat + 1 < 2 ^ s.res.porder.toNat) :
    nextPartition s =
      .ok () (s.atPartition (s.res.part.toNat + 1) (if s.res.method = 0 then .part4 else .part5)) := by
  have hmethod : s.res.method = 0 ↔ s.res.method.toNat = 0 := BitVec.toNat_inj.symm
  simp only [hmethod]
  rw [nextPartition, bind_ok (ask_run _ _), if_pos h]
  rfl

/-- After the last partition the predictor runs (R230). -/
theorem nextPartition_last {s : State} (h : 2 ^ s.res.porder.toNat ≤ s.res.part.toNat + 1) :
    nextPartition s = reconstructSubframe s := by
  rw [nextPartition, bind_ok (ask_run _ _), if_neg (Nat.not_lt.mpr h)]

/-- The values of a partition are read into the subframe's row from the partition's place on. -/
theorem partitionValues_ok {read : M Int} {code : Int → Bits} {vs : List Int} {rest : Bits} {s : State}
    (hfits : PartitionFits vs s) (hvs : ∀ v ∈ vs, ReadsValue read code v) (h : s.stream = vs.flatMap code ++ rest) :
    ∃ sub, partitionValues read s = .ok () ((s.skip (vs.flatMap code).length).withSub sub) ∧
      RowWritten s.sub sub s.sf.ch.toNat s.partitionStart (s.partitionStart + vs.length) (rowFrom s.partitionStart vs) := by
  obtain ⟨sub, hread, hrow⟩ := readSamples_readsValue hfits.channel hfits.block hvs h
  refine ⟨sub, ?_, hrow⟩
  rw [partitionValues, bind_ok (ask_run _ _)]
  simp only [id_eq, partSize_eq, ← hfits.size]
  exact hread

/-! ### Partitions of Rice codewords, and escaped ones (R234 to R236) -/

/-- A write of the residual registers that leaves the method, the partition order and the partition. -/
def KeepsPlace (f : Residual → Residual) : Prop :=
  ∀ r, (f r).method = r.method ∧ (f r).porder = r.porder ∧ (f r).part = r.part

theorem keepsPlace_withParam (param : BitVec 5) : KeepsPlace (Residual.withParam param) := fun _ => ⟨rfl, rfl, rfl⟩

theorem keepsPlace_withEscBits (escBits : BitVec 5) : KeepsPlace (Residual.withEscBits escBits) := fun _ => ⟨rfl, rfl, rfl⟩

theorem partitionStart_mapRes {f : Residual → Residual} (hf : KeepsPlace f) (n : Nat) (s : State) :
    ((s.skip n).mapRes f).partitionStart = s.partitionStart := by
  obtain ⟨-, hporder, hpart⟩ := hf s.res
  simp only [State.partitionStart, mapRes_fh, mapRes_sf, mapRes_res, skip_fh, skip_sf, skip_res, hporder, hpart]

theorem PartitionFits.mapRes {vs : List Int} {s : State} {f : Residual → Residual} (h : PartitionFits vs s) (hf : KeepsPlace f)
    (n : Nat) : PartitionFits vs ((s.skip n).mapRes f) := by
  obtain ⟨-, hporder, hpart⟩ := hf s.res
  refine ⟨?_, ?_, ?_⟩
  · simpa only [mapRes_sf, mapRes_cfg, skip_sf, skip_cfg] using h.channel
  · simpa only [mapRes_fh, mapRes_sf, mapRes_res, skip_fh, skip_sf, skip_res, hporder, hpart] using h.size
  · simpa only [partitionStart_mapRes hf, mapRes_cfg, skip_cfg] using h.block

/-- A partition that is ahead, its parameter or raw width in n bits before its values: the values are in the row, and the next
partition follows, or the predictor (R230, R233). -/
theorem exists_partition {m : M Unit} {n : Nat} {f : Residual → Residual} {read : M Int} {code : Int → Bits} {vs : List Int}
    {rest : Bits} {s : State} (hf : KeepsPlace f)
    (hrun : m s = (do partitionValues read; nextPartition) ((s.skip n).mapRes f)) (hfits : PartitionFits vs s)
    (hvs : ∀ v ∈ vs, ReadsValue read code v) (h : (s.skip n).stream = vs.flatMap code ++ rest) :
    ∃ t : State, { t with sub := s.sub } = (s.skip (n + (vs.flatMap code).length)).mapRes f ∧
      t.sub.Holds s.sf.ch.toNat s.partitionStart (s.partitionStart + vs.length) (rowFrom s.partitionStart vs) ∧
      s.sub.SameBut t.sub s.sf.ch.toNat s.partitionStart (s.partitionStart + vs.length) ∧
      (s.res.part.toNat + 1 < 2 ^ s.res.porder.toNat →
        outcome m s =
          .next (t.atPartition (s.res.part.toNat + 1) (if s.res.method = 0 then .part4 else .part5))) ∧
      (2 ^ s.res.porder.toNat ≤ s.res.part.toNat + 1 → outcome m s = outcome reconstructSubframe t) := by
  obtain ⟨hmethod, hporder, hpart⟩ := hf s.res
  obtain ⟨sub, hread, hrow⟩ := partitionValues_ok (hfits.mapRes hf n) hvs h
  rw [skip_mapRes, ← skip_add] at hread
  rw [partitionStart_mapRes hf, mapRes_sf, mapRes_sub, skip_sf, skip_sub] at hrow
  have hres : (((s.skip (n + (vs.flatMap code).length)).mapRes f).withSub sub).res = f s.res := congrArg f (skip_res _ _)
  refine ⟨((s.skip (n + (vs.flatMap code).length)).mapRes f).withSub sub, ?_, hrow.holds, hrow.sameBut, fun hnext => ?_,
    fun hlast => ?_⟩
  · rw [← skip_sub (n + (vs.flatMap code).length) s]
    rfl
  · have hgoes := nextPartition_next (s := ((s.skip (n + (vs.flatMap code).length)).mapRes f).withSub sub)
      (by rwa [hres, hporder, hpart])
    rw [hres, hmethod, hpart] at hgoes
    exact outcome_ok (hrun.trans ((bind_ok hread).trans hgoes))
  · rw [outcome, outcome, hrun, bind_ok hread, nextPartition_last (by rwa [hres, hporder, hpart])]

/-- CHECK_WIDTH of a width that is not 0 passes where it is within the limit (R234, R235). -/
theorem widthIfAny_run {n : Nat} (sub : Nat) (m : M Unit) {s : State} (h : n ≤ s.cfg.maxReadWidth) :
    (if n ≥ 1 then (do checkWidth n sub; m) else m) s = m s := by
  split_ifs with hn
  · rw [bind_run, checkWidth_run, if_pos ⟨hn, h⟩]
  · rfl

theorem ricePartition_run {width k : Nat} {s : State} (hk : k ≤ s.cfg.maxReadWidth) (h : width ≤ s.stream.length) :
    ricePartition width k s =
      (do partitionValues (readRice k); nextPartition) ((s.skip width).mapRes (Residual.withParam (BitVec.ofNat 5 k))) := by
  rw [ricePartition, bind_ok (skipBits_ok h), bind_ok (update_run _ _)]
  exact widthIfAny_run 2 _ (hk.trans_eq (congrArg Config.maxReadWidth (skip_cfg width s)).symm)

theorem escapedValues_run {b : BitVec 5} {s : State} (hb : b.toNat ≤ s.cfg.maxReadWidth) (h : 5 ≤ s.stream.length) :
    escapedValues b.toNat s =
      (do partitionValues (readS b.toNat); nextPartition) ((s.skip 5).mapRes (Residual.withEscBits b)) := by
  have hbits : BitVec.ofNat 5 b.toNat = b := (BitVec.ofNat_toNat 5 b).trans (BitVec.setWidth_eq b)
  rw [escapedValues, bind_ok (skipBits_ok h), bind_ok (update_run _ _), hbits]
  exact widthIfAny_run 1 _ (hb.trans_eq (congrArg Config.maxReadWidth (skip_cfg 5 s)).symm)

/-- The field of a row `PART4_k` or `PART5_k` (R98, R99): its width, and a parameter below the escape value. -/
theorem riceParameter_row {i : Instr} {width k : Nat} (h : i.riceParameter? = some (width, k)) (hwf : i.wellFormed = true) :
    i.encode.length = width ∧ k ≤ 30 := by
  unfold Instr.riceParameter? at h
  split at h <;> cases h <;> rename_i k
  · have := k.isLt
    exact ⟨natToBits_length _ _, by omega⟩
  · have hne : k ≠ 31 := by simpa [Instr.wellFormed] using hwf
    exact ⟨natToBits_length _ _, by bv_omega⟩

/-- Settles O49: the parameter is read, and every value is read back by RICE (`readsValue_readRice`). -/
theorem ricePartition_complete : Obligations.RicePartition := by
  intro i width k vs rest s
  dsimp only
  rw [← partitionStart_eq]
  intro hi hwf hk hc hsize hblock hvalues h
  obtain ⟨hwidth, hk30⟩ := riceParameter_row hi hwf
  rw [List.append_assoc] at h
  rw [exec_of_riceParameter hi]
  refine exists_partition (keepsPlace_withParam (BitVec.ofNat 5 k)) (ricePartition_run hk ?_) ⟨hc, hsize, hblock⟩
    (fun v hv => (hvalues v hv).elim (readsValue_readRice (by omega))) (stream_skip_of_ahead h hwidth)
  rw [h, List.length_append]
  omega

theorem escapePartition_run {width : Nat} {s : State} (h : width ≤ s.stream.length) :
    escapePartition width s =
      .ok () { s.skip width with res.param := BitVec.ofNat 5 (2 ^ width - 1), seq.pos := .esc } := by
  rw [escapePartition, bind_ok (skipBits_ok h)]
  rfl

theorem flatMap_signedBits_length (n : Nat) (vs : List Int) : (vs.flatMap (signedBits n)).length = vs.length * n := by
  simp [List.length_flatMap, signedBits_length]

/-- Settles O50: the escape value leads to the raw width, and every field is read back by READ_S (`readsValue_readS`). -/
theorem escapedPartition : Obligations.EscapedPartition := by
  intro s
  refine ⟨fun h => outcome_ok (escapePartition_run h), fun h => outcome_ok (escapePartition_run h), fun b vs rest => ?_⟩
  have hrow : exec (.esc b) s = outcome (escapedValues b.toNat) s := rfl
  dsimp only
  rw [← partitionStart_eq, ← flatMap_signedBits_length, hrow]
  intro hb hc hsize hblock hfits h
  rw [List.append_assoc] at h
  refine exists_partition (keepsPlace_withEscBits b) (escapedValues_run hb ?_) ⟨hc, hsize, hblock⟩
    (fun v hv => readsValue_readS (hfits v hv)) (stream_skip_of_ahead h (natToBits_length ..))
  rw [h, List.length_append, natToBits_length]
  omega

end Sys2Proof.Machine

/-!
The end of a frame: the channel reconstructor and its range check (R250 to R255), the padding (R256), the footer and the commit
(R257, R258).
-/

namespace Sys2Proof.Machine

/-! ### Mid and side (R254) -/

/-- Mid has lost the lowest bit of the sum, and side still has it. -/
theorem combined_mid_side (left right : Int) : combined (Int.fdiv (left + right) 2) (left - right) = left + right := by
  rw [combined, Int.fdiv_eq_ediv_of_nonneg _ (by decide)]
  omega

theorem asr_one (a : Int) : asr a 1 = Int.fdiv a 2 := (Int.fdiv_eq_ediv_of_nonneg a (by decide)).symm

theorem decorrelated_mid (f : Nat → Nat → Int) (i : Nat) :
    decorrelated .middleSide f 0 i = asr (combined (f 0 i) (f 1 i) + f 1 i) 1 := (asr_one _).symm

theorem decorrelated_side (f : Nat → Nat → Int) (i : Nat) :
    decorrelated .middleSide f 1 i = asr (combined (f 0 i) (f 1 i) - f 1 i) 1 := (asr_one _).symm

/-- Settles O57: the combined value is the sum of the two samples (`combined_mid_side`), so adding or subtracting the side gives
twice a sample. -/
theorem midSideIsExact : Obligations.MidSideIsExact := by
  intro left right i
  have hleft : asr (left + right + (left - right)) 1 = left := by simp only [asr]; omega
  have hright : asr (left + right - (left - right)) 1 = right := by simp only [asr]; omega
  have hsum := combined_mid_side left right
  refine ⟨⟨?_, ?_⟩, by rw [hsum, hleft], by rw [hsum, hright]⟩
  · rw [decorrelated_mid]
    exact (congrArg (fun x => asr (x + (left - right)) 1) hsum).trans hleft
  · rw [decorrelated_side]
    exact (congrArg (fun x => asr (x - (left - right)) 1) hsum).trans hright

/-! ### Rows written side by side -/

/-- From `before` to `after` the first rows have been written with g at the indexes lo to hi - 1, and no other entry changed. -/
structure RowsWritten (before after : SampleRam) (channels lo hi : Nat) (g : Nat → Nat → Int) : Prop where
  holds : ∀ c < channels, after.Holds c lo hi (g c)
  sameBut : ∀ key, (∀ c < channels, ∀ i < hi, lo ≤ i → key ≠ sampleKey c i) →
    SampleRam.read key after = SampleRam.read key before

namespace RowsWritten

variable {before middle after : SampleRam} {channels lo mid hi : Nat} {g : Nat → Nat → Int}

theorem refl (ram : SampleRam) (channels i : Nat) (g : Nat → Nat → Int) : RowsWritten ram ram channels i i g where
  holds := fun _ _ _ hj hij => absurd hj (Nat.not_lt.mpr hij)
  sameBut := fun _ _ => rfl

/-- Entries at other indexes read as before. -/
theorem read_index (h : RowsWritten before after channels lo hi g) {c j : Nat} (hhi : hi ≤ topBlock) (hj : j < topBlock)
    (hout : j < lo ∨ hi ≤ j) : SampleRam.read (sampleKey c j) after = SampleRam.read (sampleKey c j) before :=
  h.sameBut _ fun d _ i hi hlo heq => by
    have := (sampleKey_inj hj (by omega) heq).2
    omega

/-- The rows are written up to an index, and then from there on. -/
theorem append (h : RowsWritten before middle channels lo mid g) (h' : RowsWritten middle after channels mid hi g)
    (hlo : lo ≤ mid) (hmid : mid ≤ hi) (hhi : hi ≤ topBlock) : RowsWritten before after channels lo hi g where
  holds := fun c hc j hj hloj => by
    by_cases hjm : j < mid
    · rw [h'.read_index hhi (by omega) (.inl hjm), h.holds c hc j hjm hloj]
    · exact h'.holds c hc j hj (by omega)
  sameBut := fun key hkey => by
    rw [h'.sameBut key fun c hc i hi hmi => hkey c hc i hi (by omega),
      h.sameBut key fun c hc i hi hloi => hkey c hc i (by omega) hloi]

/-- One index of the two rows of a stereo pair. -/
theorem pair {i : Nat} (h0 : SampleRam.read (sampleKey 0 i) after = some (g 0 i))
    (h1 : SampleRam.read (sampleKey 1 i) after = some (g 1 i))
    (hsame : ∀ key, key ≠ sampleKey 0 i → key ≠ sampleKey 1 i → SampleRam.read key after = SampleRam.read key before) :
    RowsWritten before after 2 i (i + 1) g where
  holds := fun c hc j hj hij => by
    obtain rfl : j = i := by omega
    obtain rfl | rfl : c = 0 ∨ c = 1 := by omega
    · exact h0
    · exact h1
  sameBut := fun key hkey =>
    hsame key (hkey 0 (by decide) i (Nat.lt_succ_self i) le_rfl) (hkey 1 (by decide) i (Nat.lt_succ_self i) le_rfl)

end RowsWritten

/-! ### The reconstructor (R250 to R254) -/

theorem maxBlock_le_topBlock (cfg : Config) : cfg.maxBlock.val ≤ topBlock := Nat.le_of_lt_succ cfg.maxBlock.isLt

/-- The two rows of a stereo pair have different addresses. -/
theorem sampleKey_zero_ne_one (i : Nat) : sampleKey 0 i ≠ sampleKey 1 i := by
  simp only [sampleKey, topBlock]
  omega

/-- A turn of a stereo assignment's loop: both rows are read, then `body` writes. -/
def stereoTurn (body : Nat → Int → Int → M Unit) (i : Nat) : M Unit := do
  let a ← readSample 0 i
  let b ← readSample 1 i
  body i a b

/-- A stereo assignment's loop over rows that hold f: where each turn writes the pair of g at its index, the loop writes the
rows g. -/
theorem stereoLoop_ok {n : Nat} {f g : Nat → Nat → Int} {s : State} {body : Nat → Int → Int → M Unit}
    (hc : 2 ≤ s.cfg.maxChannels.val) (hn : n ≤ s.cfg.maxBlock.val) (held : ∀ c < 2, s.sub.Holds c 0 n (f c))
    (writes : ∀ i < n, ∀ sub, SampleRam.read (sampleKey 0 i) sub = some (f 0 i) →
      SampleRam.read (sampleKey 1 i) sub = some (f 1 i) →
      ∃ sub', body i (f 0 i) (f 1 i) (s.withSub sub) = .ok () (s.withSub sub') ∧ RowsWritten sub sub' 2 i (i + 1) g) :
    ∃ sub, forRange 0 n (stereoTurn body) s = .ok () (s.withSub sub) ∧ RowsWritten s.sub sub 2 0 n g := by
  have htop := maxBlock_le_topBlock s.cfg
  have turn : ∀ i t, 0 ≤ i → i < 0 + n → (∃ sub, t = s.withSub sub ∧ RowsWritten s.sub sub 2 0 i g) →
      ∃ u, stereoTurn body i t = .ok () u ∧ ∃ sub, u = s.withSub sub ∧ RowsWritten s.sub sub 2 0 (i + 1) g := by
    rintro i t - hi ⟨sub, rfl, hrows⟩
    rw [Nat.zero_add] at hi
    have hread : ∀ c < 2, SampleRam.read (sampleKey c i) sub = some (f c i) := fun c hc => by
      rw [hrows.read_index (by omega) (by omega) (.inr le_rfl), held c hc i hi (Nat.zero_le i)]
    have hsample : ∀ c < 2, readSample c i (s.withSub sub) = .ok (f c i) (s.withSub sub) := fun c hlt =>
      readSample_ok (s := s.withSub sub) (hlt.trans_le hc) (hi.trans_le hn) (hread c hlt)
    obtain ⟨sub', hbody, hpair⟩ := writes i hi sub (hread 0 (by decide)) (hread 1 (by decide))
    refine ⟨s.withSub sub', ?_, sub', rfl, hrows.append hpair (Nat.zero_le i) (Nat.le_succ i) (by omega)⟩
    rw [stereoTurn, bind_ok (hsample 0 (by decide)), bind_ok (hsample 1 (by decide)), hbody]
  obtain ⟨t, hrun, sub, rfl, hrows⟩ := forRange_ok turn ⟨s.sub, rfl, .refl ..⟩
  rw [Nat.zero_add] at hrows
  exact ⟨sub, hrun, hrows⟩

/-- Rows that hold f become the output channels of the assignment (R250 to R254). -/
theorem reconstructChannels_ok {a : Assignment} {channels n : Nat} {f : Nat → Nat → Int} {s : State}
    (hc : channels ≤ s.cfg.maxChannels.val) (hn : n ≤ s.cfg.maxBlock.val) (hpair : a ≠ .independent → channels = 2)
    (held : ∀ c < channels, s.sub.Holds c 0 n (f c)) :
    ∃ sub, reconstructChannels a n s = .ok () (s.withSub sub) ∧ RowsWritten s.sub sub channels 0 n (decorrelated a f) := by
  cases a with
  | independent => exact ⟨s.sub, rfl, held, fun _ _ => rfl⟩
  | leftSide =>
    obtain rfl := hpair nofun
    refine stereoLoop_ok hc hn held fun i hi sub h0 h1 => ⟨_, writeSample_ok _ hc (hi.trans_le hn), .pair ?_ ?_ ?_⟩
    · exact (read_write_other (sampleKey_zero_ne_one i) _ _).trans h0
    · exact read_write_same _ _ _
    · exact fun key _ hkey => read_write_other hkey _ _
  | rightSide =>
    obtain rfl := hpair nofun
    refine stereoLoop_ok hc hn held fun i hi sub h0 h1 =>
      ⟨_, writeSample_ok _ (Nat.zero_lt_of_lt hc) (hi.trans_le hn), .pair ?_ ?_ ?_⟩
    · exact read_write_same _ _ _
    · exact (read_write_other (sampleKey_zero_ne_one i).symm _ _).trans h1
    · exact fun key hkey _ => read_write_other hkey _ _
  | middleSide =>
    obtain rfl := hpair nofun
    refine stereoLoop_ok hc hn held fun i hi sub h0 h1 => ?_
    have hleft := writeSample_ok (c := 0) (asr (combined (f 0 i) (f 1 i) + f 1 i) 1) (s := s.withSub sub) (Nat.zero_lt_of_lt hc)
      (hi.trans_le hn)
    refine ⟨_, (bind_ok hleft).trans (writeSample_ok _ hc (hi.trans_le hn)), .pair ?_ ?_ ?_⟩
    · rw [read_write_other (sampleKey_zero_ne_one i), decorrelated_mid]
      exact read_write_same _ _ _
    · rw [decorrelated_side]
      exact read_write_same _ _ _
    · exact fun key h0 h1 => (read_write_other h1 _ _).trans (read_write_other h0 _ _)

/-! ### The output range check (R255) -/

/-- A loop of checks, each of which leaves the state alone or stops in the same way: it passes where all of them do. -/
theorem forRange_checks {p : Nat → Prop} [DecidablePred p] {f : Nat → M Unit} {n : Nat} {s t : State} {e : Stop}
    (turn : ∀ i < n, f i s = if p i then .ok () s else .error e t) :
    forRange 0 n f s = if ∀ i < n, p i then .ok () s else .error e t := by
  by_cases hall : ∀ i < n, p i
  · rw [if_pos hall]
    refine forRange_unchanged fun i _ hi => ?_
    rw [Nat.zero_add] at hi
    rw [turn i hi, if_pos (hall i hi)]
  · rw [if_neg hall]
    obtain ⟨u, -, -, hpassed⟩ | ⟨_, _, hrun, rfl, rfl⟩ := forRange_rule (s := s) (start := 0) (n := n) (f := f)
      (P := fun i u => u = s ∧ ∀ j < i, p j) (E := fun e' u => e' = e ∧ u = t) (by
        rintro i _ - hi ⟨rfl, hpassed⟩
        rw [Nat.zero_add] at hi
        rw [turn i hi]
        by_cases hp : p i
        · rw [if_pos hp]
          exact .inl ⟨_, rfl, rfl, Nat.forall_lt_succ_right.mpr ⟨hpassed, hp⟩⟩
        · rw [if_neg hp]
          exact .inr ⟨_, _, rfl, rfl, rfl⟩) ⟨rfl, fun _ h => absurd h (Nat.not_lt_zero _)⟩
    · rw [Nat.zero_add] at hpassed
      exact absurd hpassed hall
    · exact hrun

/-- Everything the output range check does over rows that hold g (R255). -/
theorem checkOutputRange_run {channels n : Nat} (w : Nat) {g : Nat → Nat → Int} {s : State}
    (hc : channels ≤ s.cfg.maxChannels.val) (hn : n ≤ s.cfg.maxBlock.val) (held : ∀ c < channels, s.sub.Holds c 0 n (g c)) :
    checkOutputRange channels n w s =
      if ∀ c < channels, ∀ i < n, inRange w (g c i) = true then .ok () s
      else .error .ended (errorEntry .valueOutOfRange 2 0 s) := by
  refine forRange_checks fun c hlt => forRange_checks fun i hi => ?_
  rw [bind_ok (readSample_ok (hlt.trans_le hc) (hi.trans_le hn) (held c hlt i hi (Nat.zero_le i))), raiseIf_run]
  by_cases hv : inRange w (g c i) = true <;> simp [hv]

/-- Everything the end of the channel loop does over rows that hold f: the rows are reconstructed, then checked (R250, R255). -/
theorem finishChannels_run {f : Nat → Nat → Int} {s : State} (hc : s.fh.channels.toNat ≤ s.cfg.maxChannels.val)
    (hn : s.fh.blockSize.toNat ≤ s.cfg.maxBlock.val) (hpair : s.fh.assign ≠ .independent → s.fh.channels.toNat = 2)
    (held : ∀ c < s.fh.channels.toNat, s.sub.Holds c 0 s.fh.blockSize.toNat (f c)) :
    ∃ sub, RowsWritten s.sub sub s.fh.channels.toNat 0 s.fh.blockSize.toNat (decorrelated s.fh.assign f) ∧
      finishChannels s =
        if s.cfg.rangeCheck = true → ∀ c < s.fh.channels.toNat, ∀ i < s.fh.blockSize.toNat,
            inRange s.fh.bps.toNat (decorrelated s.fh.assign f c i) = true then
          .ok () { s.withSub sub with seq.pos := .pad }
        else .error .ended (errorEntry .valueOutOfRange 2 0 (s.withSub sub)) := by
  obtain ⟨sub, hrun, hrows⟩ := reconstructChannels_ok hc hn hpair held
  have hcheck := checkOutputRange_run s.fh.bps.toNat (s := s.withSub sub) hc hn hrows.holds
  refine ⟨sub, hrows, ?_⟩
  rw [finishChannels, bind_ok (ask_run _ _), bind_ok hrun, bind_ok (ask_run _ _), withSub_cfg]
  by_cases hon : s.cfg.rangeCheck = true
  · rw [if_pos hon, bind_run, hcheck]
    simp only [hon, true_implies]
    split_ifs <;> rfl
  · rw [if_neg hon, if_pos (absurd · hon), goto_run]

/-- Settles O56: the channel loop ends in the reconstruction and its check (`finishChannels_run`). -/
theorem channelReconstruction : Obligations.ChannelReconstruction := by
  intro f s
  dsimp only
  intro hc hn hpair held
  obtain ⟨sub, hrows, hrun⟩ := finishChannels_run hc hn hpair held
  rw [← startChannel_end le_rfl] at hrun
  refine ⟨s.withSub sub, rfl, hrows.holds, fun key hkey => hrows.sameBut key fun c hc i hi _ => hkey c hc i hi,
    fun hin => ?_, ?_⟩
  · exact outcome_ok (hrun.trans (if_pos hin))
  · rintro hon ⟨c, hlt, i, hi, hout⟩
    exact outcome_ended (hrun.trans (if_neg fun hin => Bool.false_ne_true (hout.symm.trans (hin hon c hlt i hi))))

/-! ### Padding (R256) -/

/-- At the padding the sequencer's element is the rest of the byte already fetched (R127). -/
theorem decodeHere_pad {s : State} (hp : s.seq.pos = .pad) (h : s.bitsLeft < 8) :
    ∃ more, decodeHere s = .ok (.pad (natToBits s.bitsLeft s.buf.toNat), more) := by
  obtain ⟨more, hmore⟩ := upcoming_of_prefix (bits := natToBits s.bitsLeft s.buf.toNat) (s := s)
    (by rw [natToBits_length]; omega) rfl
  have hback := readsBack_pad (natToBits s.bitsLeft s.buf.toNat) more
  rw [natToBits_length] at hback
  exact ⟨more, by rw [decodeHere, hmore, hp]; exact hback⟩

/-- Everything PAD does (R256): the bits are those of the byte already fetched, so no byte is fetched. -/
theorem framePadding_run (bits : Bits) (s : State) :
    framePadding bits s =
      (let u : State := { s with bitsLeft := 0 }
       if s.cfg.paddingCheck = true ∧ true ∈ bits then .error .ended (errorEntry .invalidPadding 0 0 u)
       else .ok () { u with seq.pos := .footer }) := by
  have hskip : skipBits s.bitsLeft s = .ok () { s with bitsLeft := 0 } := by
    rw [skipBits_ok (by rw [State.stream, List.length_append, natToBits_length]; omega), skip_of_le_bitsLeft le_rfl, Nat.sub_self]
  have hany : (s.cfg.paddingCheck && bits.any id) = true ↔ s.cfg.paddingCheck = true ∧ true ∈ bits := by simp
  rw [framePadding, bind_ok (ask_run _ _), bind_ok hskip, bind_ok (ask_run _ _), bind_run, raiseIf_run]
  simp only [hany]
  split_ifs <;> rfl

/-- Settles O58: the decoder's answer (`decodeHere_pad`) and what PAD does (`framePadding_run`). -/
theorem paddingCheck : Obligations.PaddingCheck := by
  refine fun s => ⟨fun hp h => ?_, fun bits => ?_⟩
  · obtain ⟨more, hmore⟩ := decodeHere_pad hp h
    exact step_element (by rw [hp]; decide) hmore
  · have hrow : exec (.pad bits) s = outcome (framePadding bits) s := rfl
    rw [hrow, outcome, framePadding_run]
    dsimp only
    split_ifs <;> rfl

/-! ### Footer and commit (R257, R258) -/

/-- An accumulator that is off is left as it is by a move of the cursor (R130). -/
theorem crc16_skip_of_off {s : State} (h : s.crc16En = false) (n : Nat) : (s.skip n).crc16 = s.crc16 :=
  (cursorFrame n s).2.2.1 h

/-- A footer that does not match, the accumulator stopped before it (R257). -/
theorem frameFooter_mismatch {crc : BitVec 16} {s t : State} (h : skipBits 16 { s with crc16En := false } = .ok () t)
    (hcrc : crc ≠ t.crc16) : frameFooter crc s = .error .ended (errorEntry .invalidChecksum 1 0 t) := by
  rw [frameFooter, crc16Stop, bind_ok (update_run _ _), bind_ok h, bind_ok (ask_run _ _), bind_run, raiseIf_run,
    if_pos (bne_iff_ne.mpr hcrc)]

/-- Settles O59: the accumulator is stopped before the footer's 16 bits are read, so the footer is held against the checksum of the
bytes before it (`crc16_skip_of_off`); then the commit (`commitFrame_ok`). -/
theorem footerAndCommit : Obligations.FooterAndCommit := by
  intro crc s
  have hrow : exec (.crc16 crc) s = outcome (frameFooter crc) s := rfl
  have hcrc : (({ s with crc16En := false } : State).skip 16).crc16 = s.crc16 := crc16_skip_of_off rfl 16
  dsimp only
  rw [hrow]
  refine ⟨fun h => ?_, fun h => ?_⟩
  · have hshort := skipBits_short (n := 16) (s := { s with crc16En := false }) h
    exact outcome_ended ((bind_ok (update_run _ _)).trans (bind_error hshort))
  have hread := skipBits_ok (n := 16) (s := { s with crc16En := false }) h
  refine ⟨fun hne => outcome_ended (frameFooter_mismatch hread (fun heq => hne (heq.trans hcrc))), ?_⟩
  rintro rfl hc hn f held
  obtain ⟨out, hcommit, hholds, hsame⟩ := commitFrame_ok (crc := s.crc16) (f := f)
    (s := ({ s with crc16En := false } : State).skip 16) (by simpa using hc) (by simpa using hn) (by simpa using held)
  simp only [skip_fh, skip_out] at hholds hsame
  refine ⟨_, outcome_ok ((frameFooter_match hread hcrc).trans hcommit), hholds, hsame, ?_⟩
  have hframe := skip_frame 16 { s with crc16En := false }
  generalize ({ s with crc16En := false } : State).skip 16 = u at hframe ⊢
  rw [hframe, BitVec.ofNat_toNat]
  rfl

end Sys2Proof.Machine

/-!
The host commands between commands (R270 to R278): RESET, the commands that are rejected, and the two that run elements.
-/

namespace Sys2Proof.Machine

/-- Between commands a command runs (R282, R335). -/
theorem whenIdle_of_host {s : State} (hp : s.seq.pos = .host) (run : Host.Outcome State Fault Refusal) :
    whenIdle s run = run := if_pos hp

/-- Settles O2: between commands RESET is `resetCore`, the reset state with the five fields it keeps. -/
theorem resetCommand : Obligations.ResetCommand := fun _ hp => whenIdle_of_host hp _

/-- PULL in the state it runs in, by whether the counted samples are all out (R275, R276). -/
theorem exec_cmdPull_ready {s : State} (hp : s.seq.pos = .host) (hs : s.state = .ready) :
    exec .cmdPull s =
      if totalReached s then .next { s with state := .ended, lastResult := .ended } else runCommand (beginPull s) := by
  have hrun : exec .cmdPull s = whenIdle s (pullFrame s) := rfl
  rw [hrun, whenIdle_of_host hp, pullFrame, hs]

/-- PULL after the end of the sequence (R276). -/
theorem exec_cmdPull_ended {s : State} (hp : s.seq.pos = .host) (hs : s.state = .ended) :
    exec .cmdPull s = .next { s with lastResult := .ended } := by
  have hrun : exec .cmdPull s = whenIdle s (pullFrame s) := rfl
  rw [hrun, whenIdle_of_host hp, pullFrame]
  simp only [hs]

/-- PULL where no stream is open is rejected (R278). -/
theorem exec_cmdPull_rejected {s : State} (hp : s.seq.pos = .host) (hs : s.state = .idle ∨ s.state = .failed) :
    exec .cmdPull s = .next { s with lastResult := .rejected } := by
  have hrun : exec .cmdPull s = whenIdle s (pullFrame s) := rfl
  rw [hrun, whenIdle_of_host hp, pullFrame]
  obtain hs | hs := hs <;> simp only [hs, rejected]

/-- OPEN once a stream has been opened or refused is rejected (R278). -/
theorem exec_cmdOpen_rejected {s : State} (hp : s.seq.pos = .host) (hs : s.state ≠ .idle) :
    exec .cmdOpen s = .next { s with lastResult := .rejected } := by
  have hrun : exec .cmdOpen s = whenIdle s (openStream s) := rfl
  rw [hrun, whenIdle_of_host hp, openStream]
  split
  case h_1 hidle => exact absurd hidle hs
  all_goals rfl

/-- Settles O24: each of the three is `rejected`. -/
theorem rejectedCommands : Obligations.RejectedCommands := fun _ hp =>
  ⟨whenIdle_of_host hp _, exec_cmdOpen_rejected hp, exec_cmdPull_rejected hp⟩

theorem totalReached_iff {s : State} :
    totalReached s = true ↔ s.si.total ≠ 0 ∧ s.si.total.toNat ≤ s.samplesOut.toNat := decide_eq_true_iff

/-- With samples left to count PULL runs a frame (R275). -/
theorem exec_cmdPull_runs {s : State} (hp : s.seq.pos = .host) (hs : s.state = .ready)
    (htotal : ¬(s.si.total ≠ 0 ∧ s.si.total.toNat ≤ s.samplesOut.toNat)) :
    exec .cmdPull s = runCommand (beginPull s) := by
  rw [exec_cmdPull_ready hp hs, if_neg (mt totalReached_iff.mp htotal)]

/-- Only the padding's element depends on the byte boundary (R127). -/
theorem decode_align {pos : Position} (hp : pos ≠ .pad) (align : Nat) (bs : Bits) :
    decode pos align bs = decode pos 0 bs := by
  cases pos with
  | pad => exact absurd rfl hp
  | _ => rfl

/-- The element at the cursor is one of the sequencer's position, wherever the cursor is. -/
theorem position_of_decodeHere {s : State} {i : Instr} {rest : Bits} (h : decodeHere s = .ok (i, rest)) :
    i.position = s.seq.pos := by
  rw [decodeHere] at h
  by_cases hp : s.seq.pos = .pad
  · rw [hp, decode] at h
    split at h <;> cases h
    exact hp.symm
  · obtain ⟨j, more, hj, hpos⟩ := decode_ok s.seq.pos (Nat.zero_le 32) (upcoming_length s).ge
    rw [decode_align hp, hj] at h
    cases h
    exact hpos

/-- Inside a command a step is the element at the cursor (R271). -/
theorem step_eq_elementStep {s : State} (hp : s.seq.pos ≠ .host) : step s = elementStep s := by
  cases hd : decodeHere s with
  | ok r =>
    rw [step_element hp hd, elementStep_of_decode hd, exec_eq_runElement _ (position_of_decodeHere hd ▸ hp)]
  | error e =>
    rw [step, fetchInstr, if_neg hp, elementStep, hd]

/-- Settles O13: `exec` of an element is `runElement`, a run's turn is a step inside the command, and the two commands are runs
from `beginOpen` and `beginPull`. -/
theorem commandRunsItsElements : Obligations.CommandRunsItsElements := by
  refine ⟨fun i s hi => (exec_eq_runElement i hi s).symm, fun s n hp => ?_, fun s n => drain_host, fun s => exec_cmdOpen_of_idle,
    fun s => exec_cmdPull_runs⟩
  rw [step_eq_elementStep hp]
  exact if_neg hp

end Sys2Proof.Machine

/-!
Why a command ends (R339): the bits ahead of the cursor, which every element but an empty padding makes fewer, and the run that
they bound.
-/

namespace Sys2Proof.Machine

/-! ### The bits ahead of the cursor -/

/-- The bits the cursor and the answers to come can still give: those left of `BUF`, and eight for each answer. -/
def State.bitsAhead (s : State) : Nat := 8 * s.src.length + s.bitsLeft

/-- A command has fuel for an element per bit ahead, and two more. -/
theorem commandFuel_eq (s : State) : commandFuel s = s.bitsAhead + 2 := rfl

theorem loaded_bitsAhead (s : State) : s.loaded.bitsAhead = s.bitsAhead := by
  unfold State.loaded
  split
  case isTrue h0 =>
    split
    case h_1 b rest hsrc => simp [State.bitsAhead, fetched, hsrc, h0, Nat.mul_add]
    all_goals rfl
  case isFalse => rfl

theorem skip_bitsAhead_le (n : Nat) (s : State) : (s.skip n).bitsAhead ≤ s.bitsAhead := by
  induction n generalizing s with
  | zero => exact le_rfl
  | succ n ih =>
    refine (ih s.loaded.bitTaken).trans ?_
    rw [← loaded_bitsAhead s]
    exact Nat.add_le_add_left (Nat.sub_le _ 1) _

/-- Where the stream has a bit, there is one in `BUF` after the FETCH. -/
theorem loaded_bitsLeft_pos {s : State} (h : s.stream ≠ []) : 0 < s.loaded.bitsLeft := by
  unfold State.loaded
  split
  case isTrue h0 =>
    match hsrc : s.src with
    | .byte b :: rest => exact Nat.succ_pos 7
    | [] => exact absurd (by simp [State.stream, h0, hsrc, answerBits]) h
    | .ioErr e :: rest => exact absurd (by simp [State.stream, h0, hsrc, answerBits]) h
  case isFalse h0 => exact Nat.pos_of_ne_zero h0

/-- A move of the cursor that takes a bit leaves fewer ahead. -/
theorem skip_bitsAhead_lt {s : State} (h : s.stream ≠ []) (n : Nat) : (s.skip (n + 1)).bitsAhead < s.bitsAhead := by
  have hpos := loaded_bitsLeft_pos h
  have hloaded := loaded_bitsAhead s
  refine Nat.lt_of_le_of_lt (skip_bitsAhead_le n s.loaded.bitTaken) ?_
  simp only [State.bitsAhead, State.bitTaken] at hloaded ⊢
  omega

/-- The end of a run that answers: each element ends it in Q, or leaves less to do. -/
theorem drain_stops {P Q : State → Prop} {m : State → Nat}
    (element : ∀ s t, P s → s.seq.pos ≠ .host → elementStep s = .next t →
      t.seq.pos = .host ∧ Q t ∨ t.seq.pos ≠ .host ∧ P t ∧ m t < m s)
    {fuel : Nat} {s t : State} (hp : P s) (hs : s.seq.pos ≠ .host) (hm : m s < fuel) (h : drain fuel s = .next t) :
    t.seq.pos = .host ∧ Q t := by
  induction fuel generalizing s with
  | zero => exact absurd hm (Nat.not_lt_zero _)
  | succ fuel ih =>
    rw [drain, if_neg hs] at h
    split at h
    case h_1 u hu =>
      obtain ⟨hpos, hq⟩ | ⟨hpos, hpu, hlt⟩ := element _ _ hp hs hu
      · rw [drain_host hpos] at h
        cases h
        exact ⟨hpos, hq⟩
      · exact ih hpu hpos (by omega) h
    all_goals cases h

/-! ### Reads that stop only where the data ends -/

/-- An operation that moves the cursor and does nothing else, and ends the command only where the stream has no bit more. -/
def Fetches {α : Type} (m : M α) : Prop :=
  ∀ s : State, (∃ a n, m s = .ok a (s.skip n)) ∨ ∃ n, (s.skip n).stream = [] ∧ m s = .error .ended (s.skip n).noByte

theorem Fetches.bind {α β : Type} {m : M α} {f : α → M β} (hm : Fetches m) (hf : ∀ a, Fetches (f a)) : Fetches (m >>= f) := by
  intro s
  obtain ⟨a, n, h⟩ | ⟨n, hend, h⟩ := hm s
  · obtain ⟨b, k, h'⟩ | ⟨k, hend, h'⟩ := hf a (s.skip n)
    · exact .inl ⟨b, n + k, by rw [bind_ok h, h', skip_add]⟩
    · exact .inr ⟨n + k, by rwa [skip_add], by rw [bind_ok h, h', skip_add]⟩
  · exact .inr ⟨n, hend, bind_error h⟩

theorem Fetches.pure {α : Type} (a : α) : Fetches (pure a : M α) := fun _ => .inl ⟨a, 0, rfl⟩

theorem Fetches.readU (n : Nat) : Fetches (readU n) := by
  intro s
  obtain hlt | hle := Nat.lt_or_ge s.stream.length n
  · exact .inr ⟨_, by rw [stream_skip le_rfl, List.drop_length], readUFrom_short 0 hlt⟩
  · have hsplit : s.stream = s.stream.take n ++ s.stream.drop n := (List.take_append_drop n s.stream).symm
    exact .inl ⟨_, n, (readUFrom_ok 0 (List.length_take_of_le hle) hsplit).1⟩

theorem Fetches.skipBits (n : Nat) : Fetches (skipBits n) := (Fetches.readU n).bind fun _ => .pure _

theorem Fetches.readBytes (n : Nat) : Fetches (readBytes n) := by
  induction n with
  | zero => exact .pure []
  | succ n ih => exact (Fetches.readU 8).bind fun _ => ih.bind fun _ => .pure _

/-- A field of at least one bit is passed over, with fewer bits ahead after it, or it is cut short. -/
theorem skipBits_succ (n : Nat) (s : State) :
    (∃ k, skipBits (n + 1) s = .ok () (s.skip k) ∧ (s.skip k).bitsAhead < s.bitsAhead) ∨
      ∃ k, (s.skip k).stream = [] ∧ skipBits (n + 1) s = .error .ended (s.skip k).noByte := by
  obtain hlt | hle := Nat.lt_or_ge s.stream.length (n + 1)
  · exact .inr ⟨_, by rw [stream_skip le_rfl, List.drop_length], skipBits_short hlt⟩
  · have hne : s.stream ≠ [] := List.ne_nil_of_length_pos (Nat.lt_of_lt_of_le n.succ_pos hle)
    exact .inl ⟨n + 1, skipBits_ok hle, skip_bitsAhead_lt hne n⟩

end Sys2Proof.Machine

/-!
OPEN in `IDLE` (R274): every element of it answers with the next block still to read and fewer bits ahead, or OPEN ends, opened or
refused, having written nothing of the frame side.
-/

namespace Sys2Proof.Machine

/-! ### What OPEN writes -/

/-- The state `t` with the registers that OPEN writes put back as `s` has them. -/
def State.beforeOpen (s t : State) : State :=
  { t with
    state := s.state, buf := s.buf, bitsLeft := s.bitsLeft, bytePos := s.bytePos, si := s.si, err := s.err
    lastResult := s.lastResult, md := s.md, seq := s.seq, src := s.src, metadataOut := s.metadataOut }

/-- OPEN issued in `s` runs and is at `t`, fewer than `bound` bits ahead: nothing else is written, and records only added. -/
structure Opens (s : State) (bound : Nat) (t : State) : Prop where
  kept : s.beforeOpen t = s
  records : s.metadataOut <+: t.metadataOut
  idle : t.state = .idle
  err : t.err = s.err
  position : inOpen t.seq.pos = true
  quiet : t.crc8En = false ∧ t.crc16En = false ∧ t.atPullStart = false
  bitsLeft : t.bitsLeft ≤ 8
  bits : t.bitsAhead < bound

/-- How OPEN ends (R156, R274, R307). -/
inductive OpenEnd (s : State) : State → Prop where
  | opened {bound : Nat} {t : State} (h : Opens s bound t) (hvalid : t.si.valid = true) (hlast : t.md.last = true) :
    OpenEnd s (opened t)
  | failed {bound : Nat} {t : State} (h : Opens s bound t) {k : ErrorKind}
    (hk : k = .ioError ∨ k = .unexpectedEof ∨ k = .metadataFormat) (sub : Nat) (io : BitVec 32) :
    OpenEnd s (errorEntry k sub io t)

/-- Outside PULL a move of the cursor writes nothing but the cursor. -/
theorem beforeOpen_skip (s : State) {t : State} (hq : t.crc8En = false ∧ t.crc16En = false ∧ t.atPullStart = false) (n : Nat) :
    s.beforeOpen (t.skip n) = s.beforeOpen t ∧ (t.skip n).atPullStart = false := by
  obtain ⟨h8, h16, hstart⟩ := hq
  have hafter : (t.skip n).atPullStart = false :=
    Bool.eq_false_iff.mpr fun h => Bool.eq_false_iff.mp hstart (atPullStart_of_skip h)
  obtain ⟨-, hcrc8, hcrc16, -⟩ := cursorFrame n t
  refine ⟨?_, hafter⟩
  rw [skip_frame, hcrc8 h8, hcrc16 h16, hafter, ← hstart]
  rfl

theorem Opens.skip {s t : State} {bound : Nat} (h : Opens s bound t) (n : Nat) : Opens s bound (t.skip n) where
  kept := (beforeOpen_skip s h.quiet n).1.trans h.kept
  records := by simpa using h.records
  idle := by simpa using h.idle
  err := by simpa using h.err
  position := by simpa using h.position
  quiet := ⟨by simpa using h.quiet.1, by simpa using h.quiet.2.1, (beforeOpen_skip s h.quiet n).2⟩
  bitsLeft := skip_bitsLeft_le h.bitsLeft n
  bits := Nat.lt_of_le_of_lt (skip_bitsAhead_le n t) h.bits

/-- A fetch that finds no byte ends OPEN with an error (R133, R134). -/
theorem Opens.noByte {s t : State} {bound : Nat} (h : Opens s bound t) (hend : t.stream = []) : OpenEnd s t.noByte := by
  match hsrc : t.src with
  | [] =>
    rw [noByte_eof hsrc, if_neg (by simp [h.quiet.2.2])]
    exact .failed h (.inr (.inl rfl)) 0 0
  | .ioErr e :: rest =>
    rw [noByte_ioErr hsrc]
    exact .failed (t := { t with src := rest }) (bound := bound) { h with
      bits := Nat.lt_of_le_of_lt (by simp [State.bitsAhead, hsrc]) h.bits } (.inl rfl) 0 e
  | .byte b :: rest => simp [State.stream, hsrc, answerBits_byte, natToBits_succ] at hend

/-! ### Operations of OPEN -/

/-- From `t` an operation of the OPEN issued in `s` answers with Q, or ends OPEN. -/
def Reads (s : State) {α : Type} (Q : α → State → Prop) (m : M α) (t : State) : Prop :=
  (∃ a u, m t = .ok a u ∧ Q a u) ∨ ∃ u, m t = .error .ended u ∧ OpenEnd s u

namespace Reads

variable {s t : State} {α β : Type} {Q : β → State → Prop} {bound : Nat}

theorem done {b : β} {u : State} {m : M β} (h : m t = .ok b u) (hq : Q b u) : Reads s Q m t := .inl ⟨b, u, h, hq⟩

theorem bind {P : α → State → Prop} {m : M α} {f : α → M β} (hm : Reads s P m t)
    (next : ∀ a u, P a u → Reads s Q (f a) u) : Reads s Q (m >>= f) t := by
  obtain ⟨a, u, h, hp⟩ | ⟨u, h, hu⟩ := hm
  · obtain ⟨b, v, h', hq⟩ | ⟨v, h', hv⟩ := next a u hp
    · exact .inl ⟨b, v, by rw [bind_ok h, h'], hq⟩
    · exact .inr ⟨v, by rw [bind_ok h, h'], hv⟩
  · exact .inr ⟨u, bind_error h, hu⟩

theorem update {f : State → State} {m : Unit → M β} (h : Reads s Q (m ()) (f t)) : Reads s Q (Machine.update f >>= m) t := h

theorem ask {f : State → α} {m : α → M β} (h : Reads s Q (m (f t)) t) : Reads s Q (Machine.ask f >>= m) t := h

/-- A check of the metadata's form (R303), then what follows where it passes. -/
theorem check {c : Bool} {sub : Nat} {m : Unit → M β} (h : Opens s bound t) (next : Reads s Q (m ()) t) :
    Reads s Q (raiseIf c .metadataFormat sub >>= m) t := by
  cases c with
  | false => exact next
  | true => exact .inr ⟨_, rfl, .failed h (.inr (.inr rfl)) sub 0⟩

/-- A read, then what follows; the header registers and StreamInfo are as they were. -/
theorem fetches {m : M α} {f : α → M β} (h : Opens s bound t) (hm : Fetches m)
    (next : ∀ a u, Opens s bound u → u.md = t.md → u.si = t.si → Reads s Q (f a) u) : Reads s Q (m >>= f) t := by
  obtain ⟨a, n, hr⟩ | ⟨n, hend, hr⟩ := hm t
  · exact (bind (P := fun _ u => u = t.skip n) (done hr rfl)) fun a u hu =>
      hu ▸ next a _ (h.skip n) (skip_md n t) (skip_si n t)
  · exact .inr ⟨_, bind_error hr, (h.skip n).noByte hend⟩

/-- An element's first field, after which fewer bits are ahead. -/
theorem first {n : Nat} {f : Unit → M β} (h : Opens s bound t)
    (next : ∀ u, Opens s t.bitsAhead u → u.md = t.md → u.si = t.si → Reads s Q (f ()) u) :
    Reads s Q (skipBits (n + 1) >>= f) t := by
  obtain ⟨k, hr, hlt⟩ | ⟨k, hend, hr⟩ := skipBits_succ n t
  · exact bind (P := fun _ u => u = t.skip k) (done hr rfl) fun _ u hu =>
      hu ▸ next _ { h.skip k with bits := hlt } (skip_md k t) (skip_si k t)
  · exact .inr ⟨_, bind_error hr, (h.skip k).noByte hend⟩

end Reads

/-! ### Elements of OPEN -/

/-- A block comes next, StreamInfo decoded where one has been counted, fewer than `bound` bits ahead; or OPEN has ended. -/
def OpenGoesOn (s : State) (bound : Nat) (t : State) : Prop :=
  (Opens s bound t ∧ t.seq.pos = .metadata ∧ (t.md.count ≠ 0 → t.si.valid = true)) ∨ OpenEnd s t

theorem readMarker_opens {s t : State} {bound : Nat} (h : Opens s bound t) (m : BitVec 32) :
    Reads s (fun _ => OpenGoesOn s t.bitsAhead) (readMarker m) t :=
  .first h fun _ hu _ _ => .check hu (.update (.done rfl (.inl ⟨{ hu with position := rfl }, rfl, fun hne => absurd rfl hne⟩)))

theorem endBlock_opens {s t : State} {bound : Nat} (h : Opens s bound t) (hvalid : t.si.valid = true) :
    Reads s (fun _ => OpenGoesOn s bound) endBlock t := by
  refine .done (endBlock_run t) ?_
  cases hlast : t.md.last with
  | true =>
    rw [blockEnd_last hlast]
    exact .inr (.opened (t := { t with md.count := countBlock t }) { h with } hvalid hlast)
  | false =>
    rw [State.blockEnd, if_neg (by simp [hlast])]
    exact .inl ⟨{ h with position := rfl }, rfl, fun _ => hvalid⟩

/-- FIRST_BLOCK_CHECK passes the first block where it is StreamInfo, and no later StreamInfo (R143). -/
theorem firstBlockCheck_opens {s t : State} {bound : Nat} (h : Opens s bound t) :
    Reads s (fun _ u => u = t ∧ (t.md.count = 0 ↔ t.md.type = 0)) firstBlockCheck t := by
  rw [Reads, firstBlockCheck_run]
  split_ifs with hfirst hlater
  · exact .inr ⟨_, rfl, .failed h (.inr (.inr rfl)) 0 0⟩
  · exact .inr ⟨_, rfl, .failed h (.inr (.inr rfl)) 3 0⟩
  · exact .inl ⟨_, _, rfl, rfl, by tauto⟩

/-- A block's header and FIRST_BLOCK_CHECK, and then the block (R142, R143). -/
theorem blockStart_opens {s t : State} {bound : Nat} {Q : Unit → State → Prop} (h : Opens s bound t) (last : Bool)
    (type : BitVec 7) (len : BitVec 24) {m : M Unit}
    (next : ∀ u, Opens s t.bitsAhead u → u.si = t.si → (t.md.count = 0 ↔ type = 0) → Reads s Q m u) :
    Reads s Q (do blockHeader last type len; firstBlockCheck; m) t := by
  refine .bind (P := fun _ u => Opens s t.bitsAhead u ∧ u.si = t.si ∧ u.md.count = t.md.count ∧ u.md.type = type)
    (.first h fun u hu hmd hsi => .update (.fetches { hu with } (.skipBits 7) fun _ v hv hmd' hsi' => .update
      (.fetches { hv with } (.skipBits 24) fun _ w hw hmd'' hsi'' => .done rfl ⟨{ hw with }, ?_, ?_, ?_⟩)))
    fun _ u ⟨hu, hsi, hcount, htype⟩ => ?_
  · exact hsi''.trans (hsi'.trans hsi)
  · exact (congrArg Metadata.count hmd'').trans ((congrArg Metadata.count hmd').trans (congrArg Metadata.count hmd :))
  · exact congrArg Metadata.type hmd''
  · refine .bind (firstBlockCheck_opens hu) fun _ v ⟨hv, hfirst⟩ => ?_
    rw [hcount, htype] at hfirst
    exact hv ▸ next u hu hsi hfirst

/-- A record emitted. -/
theorem Opens.emit {s t : State} {bound : Nat} (h : Opens s bound t) (r : MetadataRecord) :
    Opens s bound { t with metadataOut := t.metadataOut ++ [r] } :=
  { h with records := h.records.trans (List.prefix_append _ _) }

theorem rawBlock_opens {s t : State} {bound : Nat} (h : Opens s bound t) (hcount : t.md.count ≠ 0 → t.si.valid = true)
    (last : Bool) {type : BitVec 7} (htype : type ≠ 0) (len : BitVec 24) :
    Reads s (fun _ => OpenGoesOn s t.bitsAhead) (rawBlock last type len) t := by
  refine blockStart_opens h last type len fun u hu hsi hfirst => ?_
  have hvalid : u.si.valid = true := hsi ▸ hcount fun hc => htype (hfirst.mp hc)
  refine .bind (P := fun _ v => Opens s t.bitsAhead v ∧ v.si.valid = true) ?_ fun _ v ⟨hv, hvalid⟩ => endBlock_opens hv hvalid
  exact .fetches hu (.readBytes _) fun _ v hv _ hsi => .ask (.done rfl ⟨hv.emit _, hsi ▸ hvalid⟩)

/-- A field of the body read, its register written. -/
theorem Opens.readField {s t : State} {bound : Nat} (h : Opens s bound t) {n : Nat} {f : Nat → State → State}
    (hf : ∀ v u, ∃ si, f v u = { u with si := si }) {Q : Unit → State → Prop} {m : M Unit}
    (next : ∀ u, Opens s bound u → Reads s Q m u) : Reads s Q (do let v ← readU n; update (f v); m) t :=
  .fetches h (.readU n) fun v u hu _ _ => .update (next _ (by
    obtain ⟨si, hsi⟩ := hf v u
    exact hsi ▸ { hu with }))

theorem streamInfoFields_opens {s t : State} {bound : Nat} (h : Opens s bound t) :
    Reads s (fun _ u => Opens s bound u ∧ u.si.valid = true) streamInfoFields t := by
  unfold streamInfoFields
  iterate 8
    refine h.readField (fun _ _ => ⟨_, rfl⟩) ?_
    clear h
    intro t h
  refine .fetches h (.readU 64) fun _ t h _ _ => h.readField (fun _ _ => ⟨_, rfl⟩) fun t h => .done rfl ⟨{ h with }, rfl⟩

theorem streamInfoBlock_opens {s t : State} {bound : Nat} (h : Opens s bound t) (last : Bool) (len : BitVec 24) :
    Reads s (fun _ => OpenGoesOn s t.bitsAhead) (streamInfoBlock last len) t := by
  refine blockStart_opens h last 0 len fun u hu _ _ => .check hu (.bind (streamInfoFields_opens hu) fun _ v ⟨hv, hvalid⟩ => ?_)
  exact .ask (.update (endBlock_opens (hv.emit _) hvalid))

/-- Every element of OPEN goes on to a block with fewer bits ahead, or ends OPEN. -/
theorem openElement_opens {p : Position} {m : M Unit} (he : Element p m) {s t : State} {bound : Nat} (h : Opens s bound t)
    (hp : t.seq.pos = p) (hcount : p = .metadata → t.md.count ≠ 0 → t.si.valid = true) :
    Reads s (fun _ => OpenGoesOn s t.bitsAhead) m t := by
  have hopen : inOpen p = true := hp ▸ h.position
  cases he with
  | marker m => exact readMarker_opens h m
  | streamInfo last len => exact streamInfoBlock_opens h last len
  | raw last type len htype => exact rawBlock_opens h (hcount rfl) last htype len
  | _ => exact absurd hopen nofun

/-! ### The run -/

theorem OpenEnd.host {s t : State} (h : OpenEnd s t) : t.seq.pos = .host := by
  cases h <;> rfl

/-- An error of OPEN writes nothing of the frame side (R306). -/
theorem Opens.kept_errorEntry {s t : State} {bound : Nat} (h : Opens s bound t) (k : ErrorKind) (sub : Nat) (io : BitVec 32) :
    s.beforeOpen (errorEntry k sub io t) = s := by
  obtain ⟨h8, h16, hstart⟩ := h.quiet
  refine Eq.trans ?_ h.kept
  simp only [State.beforeOpen, errorEntry, exitCommand, h8, h16, hstart]

/-- A state in OPEN's run: StreamInfo has been decoded where a block has been counted. -/
def InOpenRun (s t : State) : Prop :=
  Opens s (t.bitsAhead + 1) t ∧ (t.seq.pos = .metadata → t.md.count ≠ 0 → t.si.valid = true)

theorem elementStep_inOpenRun {s t : State} (h : InOpenRun s t) (hp : t.seq.pos ≠ .host) :
    ∃ u, elementStep t = .next u ∧
      (u.seq.pos = .host ∧ OpenEnd s u ∨ u.seq.pos ≠ .host ∧ InOpenRun s u ∧ u.bitsAhead < t.bitsAhead) := by
  obtain ⟨hopens, hcount⟩ := h
  obtain ⟨m, he, hm⟩ := elementStep_eq hopens.bitsLeft hp
  obtain ⟨_, u, hu, ⟨hu', hpos, hcounted⟩ | hend⟩ | ⟨u, hu, hend⟩ := openElement_opens he hopens rfl hcount
  · refine ⟨u, hm.trans (outcome_ok hu), .inr ⟨by simp [hpos], ⟨{ hu' with bits := Nat.lt_succ_self _ }, fun _ => hcounted⟩, ?_⟩⟩
    exact hu'.bits
  · exact ⟨u, hm.trans (outcome_ok hu), .inl ⟨hend.host, hend⟩⟩
  · exact ⟨u, hm.trans (outcome_ended hu), .inl ⟨hend.host, hend⟩⟩

/-- Where OPEN begins: the marker, or the first block with none counted (R140). -/
theorem beginOpen_inOpenRun {s : State} (hinv : s.Inv) (hp : s.seq.pos = .host) (hidle : s.state = .idle) :
    InOpenRun s (beginOpen s) ∧ (beginOpen s).seq.pos ≠ .host := by
  have hquiet := hinv.quiet (by simp [hp, inPull])
  have hopens {p : Position} (hp : inOpen p = true) (md : Metadata) :
      Opens s (s.bitsAhead + 1) { s with md := md, seq.pos := p } :=
    ⟨rfl, List.prefix_rfl, hidle, rfl, hp, hquiet, hinv.bitsLeft, Nat.lt_succ_self _⟩
  unfold beginOpen
  split
  · exact ⟨⟨hopens rfl s.md, nofun⟩, nofun⟩
  · exact ⟨⟨hopens rfl _, fun _ hne => absurd rfl hne⟩, nofun⟩

/-- Settles O26: the bits ahead bound the run (`drain_ends`), and each of its ends is one of the two stated (`OpenEnd`). -/
theorem openAlwaysEnds : Obligations.OpenAlwaysEnds := by
  intro s hinv hp hidle
  obtain ⟨hrun, hstart⟩ := beginOpen_inOpenRun hinv hp hidle
  obtain ⟨t, ht, hpos, hend⟩ := drain_ends (fun _ => elementStep_inOpenRun) _ _ hrun hstart
    (Nat.lt_add_of_pos_right (Nat.succ_pos 1) : _ < commandFuel (beginOpen s))
  refine ⟨t, (exec_cmdOpen_of_idle hp hidle).trans ht, hpos, ?_⟩
  cases hend with
  | opened h hvalid hlast => exact ⟨h.records, h.kept, .inl ⟨rfl, rfl, h.err, hvalid, hlast⟩⟩
  | failed h hk sub io =>
    exact ⟨h.records, h.kept_errorEntry _ _ _, .inr ⟨if_pos h.position, rfl, rfl, rfl, _, hk, rfl⟩⟩

end Sys2Proof.Machine

/-!
PULL's elements up to the footer (R170 to R256): each writes only what belongs to the frame, takes at least a bit where it goes on,
and where it stops, it has stopped by an error or by the end of the sequence.
-/

namespace Sys2Proof.Machine

/-! ### What the elements of PULL write -/

/-- The state `t` with the registers that a running PULL writes put back as `s` has them. -/
def State.beforeFrame (s t : State) : State :=
  { t with
    buf := s.buf, bitsLeft := s.bitsLeft, bytePos := s.bytePos, crc8 := s.crc8, crc8En := s.crc8En, crc16 := s.crc16
    crc16En := s.crc16En, atPullStart := s.atPullStart, fh := s.fh, sf := s.sf, lpc := s.lpc, res := s.res, sub := s.sub
    subEarlier := s.subEarlier, seq := s.seq, src := s.src }

/-- From `s` PULL has gone on to `t` and taken at least `n` bits. -/
structure Moves (n : Nat) (s t : State) : Prop where
  kept : s.beforeFrame t = s
  position : inPull s.seq.pos = true → inPull t.seq.pos = true
  start : t.atPullStart = true → s.atPullStart = true
  bits : t.bitsAhead + n ≤ s.bitsAhead

/-- From `s` PULL has stopped before its commit: by an error, or, where no byte had been taken, by the end of the sequence. -/
inductive PullStop (s : State) : State → Prop where
  | error {t : State} (kept : s.beforeFrame t = s) (position : inPull s.seq.pos = true → inPull t.seq.pos = true)
      (k : ErrorKind) (sub : Nat) (io : BitVec 32) : PullStop s (errorEntry k sub io t)
  | sequenceEnd {t : State} (kept : s.beforeFrame t = s) (start : s.atPullStart = true) : PullStop s (endOfSequence t)

theorem beforeFrame_trans {s t u : State} (h : s.beforeFrame t = s) (h' : t.beforeFrame u = t) : s.beforeFrame u = s :=
  (congrArg s.beforeFrame h').trans h

theorem Moves.refl (s : State) : Moves 0 s s := ⟨rfl, id, id, le_rfl⟩

theorem Moves.trans {m n : Nat} {s t u : State} (h : Moves m s t) (h' : Moves n t u) : Moves (m + n) s u where
  kept := beforeFrame_trans h.kept h'.kept
  position := h'.position ∘ h.position
  start := h.start ∘ h'.start
  bits := by have := h.bits; have := h'.bits; omega

theorem Moves.stop {n : Nat} {s t u : State} (h : Moves n s t) (hu : PullStop t u) : PullStop s u := by
  cases hu with
  | error kept position k sub io => exact .error (beforeFrame_trans h.kept kept) (position ∘ h.position) k sub io
  | sequenceEnd kept start => exact .sequenceEnd (beforeFrame_trans h.kept kept) (h.start start)

theorem Moves.skip (n : Nat) (s : State) : Moves 0 s (s.skip n) where
  kept := by
    rw [skip_frame]
    rfl
  position := by simp
  start := atPullStart_of_skip
  bits := skip_bitsAhead_le n s

theorem PullStop.exit {s t : State} (h : Exit s t) : PullStop s t := by
  cases h with
  | error k sub => exact .error rfl id k sub 0
  | ioError e rest => exact .error (s := s) (t := { s with src := rest }) rfl id .ioError 0 e
  | sequenceEnd start => exact .sequenceEnd rfl start

/-! ### Operations of PULL -/

/-- However the operation runs, PULL goes on with at least `n` bits taken, or it has stopped; or the model stops. -/
def Goes (n : Nat) {α : Type} (m : M α) : Prop :=
  ∀ s, match m s with
    | .ok _ t => Moves n s t
    | .error .ended t => PullStop s t
    | .error (.fault _) _ => True

namespace Goes

variable {α β : Type} {n : Nat}

theorem seq {k : Nat} {m : M α} {f : α → M β} (hm : Goes k m) (hf : ∀ a, Goes n (f a)) : Goes (k + n) (m >>= f) := by
  intro s
  have hs := hm s
  rw [bind_run]
  match hms : m s with
  | .error .ended t => rwa [hms] at hs
  | .error (.fault _) t => trivial
  | .ok a t =>
    rw [hms] at hs
    have ht := hf a t
    dsimp only
    match hft : f a t with
    | .ok b u =>
      rw [hft] at ht
      exact hs.trans ht
    | .error .ended u =>
      rw [hft] at ht
      exact hs.stop ht
    | .error (.fault _) u => trivial

theorem weaken {m : M α} (hm : Goes n m) : Goes 0 m := by
  intro s
  have hs := hm s
  match hms : m s with
  | .ok a t =>
    rw [hms] at hs
    exact { hs with bits := (Nat.le_add_right _ n).trans hs.bits }
  | .error .ended t => rwa [hms] at hs
  | .error (.fault _) t => trivial

/-- An operation that need take no bit, then the rest. -/
theorem bind {m : M α} {f : α → M β} (hm : Goes 0 m) (hf : ∀ a, Goes n (f a)) : Goes n (m >>= f) :=
  Nat.zero_add n ▸ hm.seq hf

/-- An operation that takes a bit, then the rest. -/
theorem first {m : M α} {f : α → M β} (hm : Goes 1 m) (hf : ∀ a, Goes 0 (f a)) : Goes 1 (m >>= f) := hm.seq hf

theorem reads {m : M α} (hm : Reader m) : Goes 0 m := by
  intro s
  obtain ⟨a, n, hs⟩ | ⟨n, t, hs, ht⟩ := hm s <;> rw [hs]
  · exact .skip n s
  · exact (Moves.skip n s).stop (.exit ht)

theorem field (n : Nat) : Goes 1 (skipBits (n + 1)) := by
  intro s
  obtain ⟨k, hs, hlt⟩ | ⟨k, hend, hs⟩ := skipBits_succ n s <;> rw [hs]
  · exact { Moves.skip k s with bits := hlt }
  · exact (Moves.skip k s).stop (.exit (exit_noByte hend))

theorem skipBits (n : Nat) : Goes 0 (skipBits n) := reads (.skipBits n)

theorem pure (a : α) : Goes 0 (Pure.pure a : M α) := .refl

theorem ask (f : State → α) : Goes 0 (ask f) := .refl

theorem raise (k : ErrorKind) (sub : Nat) : Goes n (raise k sub : M α) := fun _ => .error rfl id k sub 0

theorem raiseIf (c : Bool) (k : ErrorKind) (sub : Nat) : Goes 0 (raiseIf c k sub) := reads (.raiseIf c k sub)

/-- A write of the frame's registers. -/
theorem write {f : State → State}
    (hf : ∀ s, f s =
      { s with
        crc8En := (f s).crc8En, fh := (f s).fh, sf := (f s).sf, lpc := (f s).lpc, res := (f s).res, sub := (f s).sub
        seq := { (f s).seq with pos := s.seq.pos } }) : Goes 0 (update f) := by
  intro s
  rw [update_run, hf s]
  exact ⟨rfl, id, id, le_rfl⟩

theorem goto {p : Position} (hp : inPull p = true) : Goes 0 (goto p) := fun _ => ⟨rfl, fun _ => hp, id, le_rfl⟩

theorem forRange {f : Nat → M Unit} (hf : ∀ i, Goes 0 (f i)) (start n : Nat) : Goes 0 (forRange start n f) := by
  induction n generalizing start with
  | zero => exact pure ()
  | succ n ih => exact (hf start).bind fun _ => ih _

theorem readSample (c i : Nat) : Goes 0 (readSample c i) := by
  intro s
  rw [readSample_run]
  by_cases he : sampleExists s.cfg c i = true
  · rw [if_pos he]
    cases SampleRam.read (sampleKey c i) s.sub with
    | some v => exact .refl s
    | none => trivial
  · rw [if_neg he]
    trivial

theorem writeSample (c i : Nat) (v : Int) : Goes 0 (writeSample c i v) := by
  intro s
  rw [writeSample_run]
  by_cases he : sampleExists s.cfg c i = true
  · rw [if_pos he]
    exact ⟨rfl, id, id, le_rfl⟩
  · rw [if_neg he]
    trivial

theorem readSamples (c : Nat) {read : M Int} (hr : Reader read) (i n : Nat) : Goes 0 (readSamples c read i n) := by
  induction n generalizing i with
  | zero => exact pure ()
  | succ n ih => exact (reads hr).bind fun _ => (writeSample _ _ _).bind fun _ => ih _

theorem historySum (c : Nat) (coefs : List Int) (i : Nat) : Goes 0 (historySum c coefs i) := by
  induction coefs generalizing i with
  | nil => exact pure 0
  | cons q qs ih => exact (readSample _ _).bind fun _ => (ih _).bind fun _ => pure _

/-! ### Channels (R200, R250 to R256) -/

theorem reconstructChannels (a : Assignment) (n : Nat) : Goes 0 (reconstructChannels a n) := by
  cases a with
  | independent => exact pure ()
  | leftSide | rightSide =>
    exact forRange (fun _ => (readSample _ _).bind fun _ => (readSample _ _).bind fun _ => writeSample _ _ _) _ _
  | middleSide =>
    exact forRange (fun _ => (readSample _ _).bind fun _ => (readSample _ _).bind fun _ =>
      (writeSample _ _ _).bind fun _ => writeSample _ _ _) _ _

theorem checkOutputRange (channels n w : Nat) : Goes 0 (checkOutputRange channels n w) :=
  forRange (fun _ => forRange (fun _ => (readSample _ _).bind fun _ => raiseIf _ _ _) _ _) _ _

theorem finishChannels : Goes 0 finishChannels := by
  refine (ask _).bind fun _ => (reconstructChannels _ _).bind fun _ => (ask _).bind fun check => ?_
  split
  · exact (checkOutputRange _ _ _).bind fun _ => goto rfl
  · exact goto rfl

theorem startChannel (c : Nat) : Goes 0 (startChannel c) := by
  refine (ask _).bind fun fh => ?_
  split
  · exact (write fun _ => rfl).bind fun _ => goto rfl
  · exact finishChannels

theorem framePadding (bits : Bits) : Goes 0 (framePadding bits) :=
  (ask _).bind fun _ => (skipBits _).bind fun _ => (ask _).bind fun _ => (raiseIf _ _ _).bind fun _ => goto rfl

/-! ### Frame header (R170 to R186) -/

theorem depthCode (k : Nat) : Goes 1 (depthCode k) := by
  refine (field 2).first fun _ => (write fun _ => rfl).bind fun _ => (ask _).bind fun si => ?_
  split
  · exact write fun _ => rfl
  · exact raise _ _

theorem resolveRate : Goes 0 resolveRate := by
  refine (ask _).bind fun code => (ask _).bind fun si => ?_
  split_ifs
  case neg =>
    split
    · exact (write fun _ => rfl).bind fun _ => goto rfl
    · exact raise _ _
  all_goals exact goto rfl

theorem resolveBlockSize : Goes 0 resolveBlockSize := by
  refine (ask _).bind fun code => ?_
  split_ifs
  case neg =>
    split
    · exact (write fun _ => rfl).bind fun _ => resolveRate
    · exact raise _ _
  all_goals exact goto rfl

theorem numberDone (v : BitVec 36) : Goes 0 (numberDone v) := (write fun _ => rfl).bind fun _ => resolveBlockSize

theorem channelCode (k : Nat) : Goes 1 (channelCode k) := by
  refine (field 3).first fun _ => (write fun _ => rfl).bind fun _ => ?_
  split
  · exact (write fun _ => rfl).bind fun _ => goto rfl
  · exact raise _ _

theorem numberLead (len x : Nat) : Goes 1 (numberLead len x) := by
  refine (field 7).first fun _ => (ask _).bind fun _ => (raiseIf _ _ _).bind fun _ => ?_
  split
  · exact numberDone _
  · exact (write fun _ => rfl).bind fun _ => goto rfl

theorem numberByte (c : BitVec 8) : Goes 1 (numberByte c) := by
  refine (field 7).first fun _ => (raiseIf _ _ _).bind fun _ => (ask _).bind fun q => ?_
  dsimp only
  split
  · exact numberDone _
  · exact write fun _ => rfl

theorem trailingBlockSize (bits t : Nat) : Goes 1 (trailingBlockSize (bits + 1) t) :=
  (field bits).first fun _ => (write fun _ => rfl).bind fun _ => resolveRate

theorem trailingRate (bits t unit : Nat) : Goes 1 (trailingRate (bits + 1) t unit) :=
  (field bits).first fun _ => (write fun _ => rfl).bind fun _ => goto rfl

theorem headerCrc (crc : BitVec 8) : Goes 1 (headerCrc crc) :=
  (write fun _ => rfl).bind fun _ => (field 7).first fun _ => (write fun _ => rfl).bind fun _ => (ask _).bind fun _ =>
    (raiseIf _ _ _).bind fun _ => (reads .blockSizeLimit).bind fun _ => startChannel 0

/-! ### Subframes (R200 to R217) -/

theorem subframeType (type : Nat) : Goes 0 (subframeType type) := by
  refine (skipBits _).bind fun _ => (write fun _ => rfl).bind fun _ => (ask _).bind fun cfg => ?_
  split
  · exact write fun _ => rfl
  · exact raise _ _

theorem subframeHeader (type : Nat) (flag : Bool) : Goes 1 (subframeHeader type flag) :=
  (field 0).first fun _ => (subframeType type).bind fun _ => (skipBits _).bind fun _ => (reads (.wastedCount flag)).bind fun _ =>
    (write fun _ => rfl).bind fun _ => (write fun _ => rfl).bind fun _ => (ask _).bind fun _ => reads (.checkWidth _ _)

theorem finishSubframe : Goes 0 finishSubframe :=
  (ask _).bind fun _ => (ask _).bind fun _ =>
    (forRange (fun _ => (readSample _ _).bind fun _ => writeSample _ _ _) _ _).bind fun _ => startChannel _

theorem warmup (order : Nat) : Goes 0 (warmup order) := (ask _).bind fun _ => readSamples _ (.readS _) _ _

theorem lpcHeader : Goes 0 lpcHeader :=
  (reads (.readU 4)).bind fun _ => (raiseIf _ _ _).bind fun _ => (write fun _ => rfl).bind fun _ =>
    (reads (.checkWidth _ _)).bind fun _ => (reads (.readS 5)).bind fun _ => (raiseIf _ _ _).bind fun _ => write fun _ => rfl

theorem lpcCoefs (prec j n : Nat) : Goes 0 (lpcCoefs prec j n) := by
  induction n generalizing j with
  | zero => exact pure ()
  | succ n ih => exact (reads (.readS prec)).bind fun _ => (write fun _ => rfl).bind fun _ => ih _

theorem reconstructSubframe : Goes 0 reconstructSubframe :=
  (ask _).bind fun _ => (ask _).bind fun _ => (ask _).bind fun _ =>
    (forRange (fun _ => (historySum _ _ _).bind fun _ => (readSample _ _).bind fun _ =>
      (reads (.rangeCheckSample _ _)).bind fun _ => writeSample _ _ _) _ _).bind fun _ => finishSubframe

/-! ### Residual (R230 to R235) -/

theorem gotoPartition (method : Nat) : Goes 0 (Machine.goto (partitionPosition method)) :=
  goto (by unfold partitionPosition; split <;> rfl)

theorem nextPartition : Goes 0 nextPartition := by
  refine (ask _).bind fun res => ?_
  split
  · exact (write fun _ => rfl).bind fun _ => gotoPartition _
  · exact reconstructSubframe

/-- The width check of a parameter that is not 0, the partition's values, and what follows them (R233 to R235). -/
theorem checkedPartition {read : M Int} (hr : Reader read) (n sub : Nat) :
    Goes 0 (if n ≥ 1 then do checkWidth n sub; partitionValues read; Machine.nextPartition
      else do partitionValues read; Machine.nextPartition) := by
  have hvalues : Goes 0 (do partitionValues read; Machine.nextPartition) :=
    ((ask _).bind fun _ => readSamples _ hr _ _).bind fun _ => nextPartition
  split
  · exact (reads (.checkWidth _ _)).bind fun _ => hvalues
  · exact hvalues

end Goes

/-- Every element of PULL before the padding goes on with at least a bit taken, or PULL has stopped. -/
theorem pullElement_goes {p : Position} {m : M Unit} (he : Element p m) (hp : inPull p = true) (hpad : p ≠ .pad)
    (hfooter : p ≠ .footer) : Goes 1 m := by
  cases he with
  | marker | streamInfo | raw => cases hp
  | pad => exact absurd rfl hpad
  | footer => exact absurd rfl hfooter
  | sync blocking =>
    exact (Goes.field 13).first fun _ => (Goes.skipBits _).bind fun _ => (Goes.skipBits _).bind fun _ =>
      (Goes.write fun _ => rfl).bind fun _ => .goto rfl
  | badSync => exact (Goes.field 13).first fun _ => .raise _ _
  | badReservedA => exact (Goes.field 13).first fun _ => (Goes.skipBits _).bind fun _ => .raise _ _
  | bsCode | srCode =>
    exact (Goes.field 3).first fun _ => (Goes.write fun _ => rfl).bind fun _ => (Goes.raiseIf _ _ _).bind fun _ => .goto rfl
  | chCode k => exact .channelCode k
  | bpsCode k => exact (Goes.depthCode k).first fun _ => (Goes.skipBits _).bind fun _ => .goto rfl
  | badReservedB k => exact (Goes.depthCode k).first fun _ => (Goes.skipBits _).bind fun _ => .raise _ _
  | numberLead len x => exact .numberLead len x
  | badNumberLead => exact (Goes.field 7).first fun _ => .raise _ _
  | numberByte c => exact .numberByte c
  | bs8 t | bs16 t => exact .trailingBlockSize _ _
  | sr8 t | sr16 t | sr16x10 t => exact .trailingRate _ _ _
  | crc8 crc => exact .headerCrc crc
  | badSubframeReserved => exact (Goes.field 0).first fun _ => .raise _ _
  | badSubframeType type => exact (Goes.field 0).first fun _ => .subframeType type
  | constant wasted =>
    exact (Goes.subframeHeader 0 wasted).first fun _ => (Goes.ask _).bind fun _ => (Goes.ask _).bind fun _ =>
      (Goes.reads (.readS _)).bind fun _ => (Goes.forRange (fun _ => .writeSample _ _ _) _ _).bind fun _ => .finishSubframe
  | verbatim wasted =>
    exact (Goes.subframeHeader 1 wasted).first fun _ => (Goes.ask _).bind fun _ => (Goes.ask _).bind fun _ =>
      (Goes.readSamples _ (.readS _) _ _).bind fun _ => .finishSubframe
  | fixed order wasted =>
    exact (Goes.subframeHeader _ wasted).first fun _ => (Goes.warmup order).bind fun _ => .goto rfl
  | lpc order wasted =>
    exact (Goes.subframeHeader _ wasted).first fun _ => (Goes.warmup order).bind fun _ => Goes.lpcHeader.bind fun _ =>
      (Goes.ask _).bind fun _ => (Goes.lpcCoefs _ _ _).bind fun _ => .goto rfl
  | residual method porder =>
    exact (Goes.field 1).first fun _ => (Goes.write fun _ => rfl).bind fun _ => (Goes.skipBits _).bind fun _ =>
      (Goes.write fun _ => rfl).bind fun _ => (Goes.reads .partitionCheck).bind fun _ =>
        (Goes.write fun _ => rfl).bind fun _ => .gotoPartition method
  | badCodingMethod => exact (Goes.field 1).first fun _ => (Goes.write fun _ => rfl).bind fun _ => .raise _ _
  | rice4 k | rice5 k =>
    exact (Goes.field _).first fun _ => (Goes.write fun _ => rfl).bind fun _ => .checkedPartition (.readRice k) k 2
  | escape4 | escape5 => exact (Goes.field _).first fun _ => (Goes.write fun _ => rfl).bind fun _ => .goto rfl
  | escaped width =>
    exact (Goes.field 4).first fun _ => (Goes.write fun _ => rfl).bind fun _ => .checkedPartition (.readS width) width 1

end Sys2Proof.Machine

/-!
PULL in `READY` (R275): the run from its first element to a commit, the end of the sequence or an error, and what each leaves.
-/

namespace Sys2Proof.Machine

/-! ### The footer (R257) -/

/-- The footer stops PULL, or hands over to the commit with the checksum off and the cursor moved. -/
theorem frameFooter_cases (crc : BitVec 16) (s : State) :
    (∃ t, frameFooter crc s = .error .ended t ∧ PullStop s t) ∨
      ∃ n, frameFooter crc s = commitFrame crc (({ s with crc16En := false } : State).skip n) := by
  have hoff : Moves 0 s { s with crc16En := false } := ⟨rfl, id, id, le_rfl⟩
  obtain ⟨_, n, h⟩ | ⟨n, t, h, ht⟩ := Reader.skipBits 16 { s with crc16En := false }
  · have hcrc := crc16_skip_of_off (s := { s with crc16En := false }) rfl n
    by_cases heq : crc = s.crc16
    · subst heq
      exact .inr ⟨n, frameFooter_match h hcrc⟩
    · exact .inl ⟨_, frameFooter_mismatch h (fun hne => heq (hne.trans hcrc)),
        (hoff.trans (.skip n _)).stop (.exit (.error _ _))⟩
  · exact .inl ⟨t, (bind_ok (update_run _ _)).trans (bind_error h), (hoff.trans (.skip n _)).stop (.exit ht)⟩

/-! ### The first element (R133, R171) -/

/-- A field's first bit is read, then its others. -/
theorem skipBits_succ_bind {α : Type} (n : Nat) (f : Unit → M α) :
    skipBits (n + 1) >>= f = readBit >>= fun b => readUFrom b.toNat n >>= fun _ => f () := by
  simp [skipBits, readU, readUFrom, bind_assoc]

/-- Every sync element reads a bit first. -/
theorem sync_readsBit {m : M Unit} (he : Element .sync m) : ∃ f : Bool → M Unit, m = readBit >>= f ∧ ∀ b, Goes 0 (f b) := by
  obtain ⟨f, rfl, hf⟩ : ∃ f : Unit → M Unit, m = skipBits 14 >>= f ∧ Goes 0 (f ()) := by
    cases he with
    | sync blocking =>
      exact ⟨_, rfl, (Goes.skipBits _).bind fun _ => (Goes.skipBits _).bind fun _ => (Goes.write fun _ => rfl).bind fun _ =>
        .goto rfl⟩
    | badSync => exact ⟨_, rfl, .raise _ _⟩
    | badReservedA => exact ⟨_, rfl, (Goes.skipBits _).bind fun _ => .raise _ _⟩
  exact ⟨_, skipBits_succ_bind 13 f, fun b => (Goes.reads (.readUFrom 13 b.toNat)).bind fun _ => hf⟩

/-- The first bit of an aligned cursor is of a byte that PULL has taken (R26). -/
theorem atPullStart_skip_one {s : State} (h0 : s.bitsLeft = 0) (h : s.stream ≠ []) : (s.skip 1).atPullStart = false := by
  match hsrc : s.src with
  | .byte b :: rest =>
    have hl : s.loaded = fetched b rest s := by simp [State.loaded, h0, hsrc]
    rw [State.skip, hl]
    rfl
  | [] => exact absurd (by simp [State.stream, h0, hsrc, answerBits]) h
  | .ioErr e :: rest => exact absurd (by simp [State.stream, h0, hsrc, answerBits]) h

/-- From an aligned cursor a sync element that goes on has taken a byte, and where it ends the sequence there was none. -/
theorem sync_takesByte {m : M Unit} (he : Element .sync m) {s t : State} (h0 : s.bitsLeft = 0) :
    (m s = .ok () t → t.atPullStart = false) ∧ (m s = .error .ended t → t.lastResult = .ended → s.src = []) := by
  obtain ⟨f, rfl, hf⟩ := sync_readsBit he
  match hs : s.stream with
  | b :: bs =>
    have hstart := Bool.eq_false_iff.mp (atPullStart_skip_one h0 (by simp [hs]))
    have hgoes := hf b (s.skip 1)
    rw [bind_ok (readBit_ok hs).1]
    refine ⟨fun h => ?_, fun h hended => ?_⟩ <;> rw [h] at hgoes
    · exact Bool.eq_false_iff.mpr fun ht => hstart (hgoes.start ht)
    · cases hgoes with
      | error => cases hended
      | sequenceEnd _ hbefore => exact absurd hbefore hstart
  | [] =>
    rw [bind_error (readBit_none hs)]
    refine ⟨nofun, fun h hended => ?_⟩
    cases h
    match hsrc : s.src with
    | [] => rfl
    | .ioErr e :: rest =>
      rw [noByte_ioErr hsrc] at hended
      cases hended
    | .byte b :: rest => simp [State.stream, hsrc, answerBits_byte, natToBits_succ] at hs

/-! ### The run -/

/-- PULL issued in `s` runs and is at `t`: only the frame's registers are written, and before the first byte is taken it is at its
first element. -/
structure InPullRun (s t : State) : Prop where
  kept : s.beforeFrame t = s
  position : inPull t.seq.pos = true
  bitsLeft : t.bitsLeft ≤ 8
  start : t.atPullStart = true → t.seq.pos = .sync ∧ t.bitsLeft = 0 ∧ t.src = s.src
  inv : s.Inv → s.holdsEveryFrame → t.Inv

/-- How a PULL that was issued in `s` ends (R275, R276, R306). -/
inductive PullEnd (s : State) : State → Prop where
  | error {t : State} (kept : s.beforeFrame t = s) (position : inPull t.seq.pos = true) (k : ErrorKind) (sub : Nat)
      (io : BitVec 32) : PullEnd s (errorEntry k sub io t)
  | sequenceEnd {t : State} (kept : s.beforeFrame t = s) (source : s.src = []) : PullEnd s (endOfSequence t)
  | commit {t u : State} (run : InPullRun s t) (position : t.seq.pos = .footer) (crc : BitVec 16) (n : Nat)
      (committed : commitFrame crc (({ t with crc16En := false } : State).skip n) = .ok () u) : PullEnd s u

theorem PullEnd.host {s t : State} (h : PullEnd s t) : t.seq.pos = .host := by
  cases h with
  | error | sequenceEnd => rfl
  | commit _ _ _ _ h => exact (committed_of_commitFrame h).2

theorem InPullRun.sizes {s t : State} (h : InPullRun s t) (hs : s.holdsEveryFrame) : t.holdsEveryFrame :=
  hs.of_cfg (congrArg State.cfg h.kept :)

/-- An element that stops PULL ends it; the sequence ends only where the source had no byte for it. -/
theorem InPullRun.stop {s t u : State} (h : InPullRun s t) {m : M Unit} (he : Element t.seq.pos m)
    (hu : m t = .error .ended u) (hstop : PullStop t u) : PullEnd s u := by
  cases hstop with
  | error kept position k sub io => exact .error (beforeFrame_trans h.kept kept) (position h.position) k sub io
  | sequenceEnd kept start =>
    obtain ⟨hsync, h0, hsrc⟩ := h.start start
    exact .sequenceEnd (beforeFrame_trans h.kept kept) (hsrc ▸ (sync_takesByte (hsync ▸ he) h0).2 hu rfl)

/-- An element that goes on. -/
theorem InPullRun.next {s t u : State} (h : InPullRun s t) {m : M Unit} (he : Element t.seq.pos m) (hu : m t = .ok () u)
    {n : Nat} (hmoves : Moves n t u) : InPullRun s u where
  kept := beforeFrame_trans h.kept hmoves.kept
  position := hmoves.position h.position
  bitsLeft := ((pullKeeps_closed.pullElement he (inPull_eq_true.mp h.position).2).outcome (outcome_ok hu)).2.2 h.bitsLeft
  start hstart := by
    obtain ⟨hsync, h0, -⟩ := h.start (hmoves.start hstart)
    exact absurd (hstart.symm.trans ((sync_takesByte (hsync ▸ he) h0).1 hu)) nofun
  inv hinv hs := by
    obtain ⟨v, hv, hkeeps, -⟩ := element_keeps_inv he (h.inv hinv hs) (h.sizes hs)
    cases (outcome_ok hu).symm.trans hv
    exact hkeeps

/-- What bounds a PULL: the bits ahead, and one element more before the footer, for the padding may be empty. -/
def elementsAhead (s : State) : Nat := s.bitsAhead + if s.seq.pos = .footer then 0 else 1

/-- Every element of PULL but the footer goes on with fewer elements ahead, or PULL has stopped. -/
theorem pullElement_next {p : Position} {m : M Unit} (he : Element p m) (hp : inPull p = true) (hf : p ≠ .footer) :
    Goes 0 m ∧ ∀ t u, t.seq.pos = p → m t = .ok () u → elementsAhead u < elementsAhead t := by
  by_cases hpad : p = .pad
  · subst hpad
    cases he with
    | pad bits =>
      refine ⟨.framePadding bits, fun t u ht hu => ?_⟩
      have hmoves := Goes.framePadding bits t
      rw [hu] at hmoves
      have hpos : u.seq.pos = .footer := by
        rw [framePadding_run] at hu
        dsimp only at hu
        split at hu <;> cases hu
        rfl
      rw [elementsAhead, elementsAhead, if_pos hpos, if_neg (by simp [ht])]
      exact Nat.lt_succ_of_le hmoves.bits
  · have hgoes := pullElement_goes he hp hpad hf
    refine ⟨hgoes.weaken, fun t u ht hu => ?_⟩
    have hmoves := hgoes t
    rw [hu] at hmoves
    have hbits := hmoves.bits
    have hnot : t.seq.pos ≠ .footer := by rwa [ht]
    rw [elementsAhead, elementsAhead, if_neg hnot]
    split <;> omega

theorem elementStep_inPullRun {s t u : State} (h : InPullRun s t) (hu : elementStep t = .next u) :
    u.seq.pos = .host ∧ PullEnd s u ∨ u.seq.pos ≠ .host ∧ InPullRun s u ∧ elementsAhead u < elementsAhead t := by
  have ends (hend : PullEnd s u) : u.seq.pos = .host ∧ PullEnd s u := ⟨hend.host, hend⟩
  obtain ⟨m, he, hm⟩ := elementStep_eq h.bitsLeft (inPull_eq_true.mp h.position).1
  rw [hm] at hu
  by_cases hf : t.seq.pos = .footer
  · have he' := he
    rw [hf] at he'
    cases he' with
    | footer crc =>
      left
      obtain ⟨v, hv, hstop⟩ | ⟨n, hcommit⟩ := frameFooter_cases crc t
      · cases (outcome_ended hv).symm.trans hu
        exact ends (h.stop he hv hstop)
      · rw [outcome_eq_next, hcommit] at hu
        exact ends (.commit h hf crc n (hu.resolve_right (neverEnds_commitFrame crc _ u)))
  · obtain ⟨hgoes, hlt⟩ := pullElement_next he h.position hf
    have hrun := hgoes t
    obtain hu | hu := outcome_eq_next.mp hu <;> rw [hu] at hrun
    · have hnext := h.next he hu hrun
      exact .inr ⟨(inPull_eq_true.mp hnext.position).1, hnext, hlt t u rfl hu⟩
    · exact .inl (ends (h.stop he hu hrun))

/-- PULL's run from its start ends (R339). -/
theorem pull_ends {s t : State} (hready : s.state = .ready) (h : runCommand (beginPull s) = .next t) :
    t.seq.pos = .host ∧ PullEnd s t := by
  have hrun : InPullRun s (beginPull s) :=
    ⟨rfl, rfl, Nat.zero_le 8, fun _ => ⟨rfl, rfl, rfl⟩, fun hinv _ => beginPull_inv hinv hready⟩
  exact drain_stops (fun _ _ hu _ => elementStep_inPullRun hu) hrun nofun (Nat.lt_succ_self _) h

/-! ### The commit (R258, R281) -/

/-- OUT and the frame port hold the same frame, the one of the header registers. -/
structure FrameOutHeld (t : State) (r : FrameRecord) : Prop where
  blockSize : r.blockSize = t.fh.blockSize
  channels : r.channels = t.fh.channels
  rows : r.samples.length = t.fh.channels.toNat
  row : ∀ c < t.fh.channels.toNat, (r.samples.getD c []).length = t.fh.blockSize.toNat ∧
    SampleRam.Holds t.out c 0 t.fh.blockSize.toNat ((r.samples.getD c []).getD · 0)

/-- The commit of a frame whose rows are written. -/
theorem commitFrame_written {crc : BitVec 16} {s t : State} (hs : s.holdsEveryFrame)
    (hc : s.fh.channels.toNat ≤ topChannels) (hn : s.fh.blockSize.toNat ≤ topBlock)
    (hw : s.rowsWritten s.fh.channels.toNat) (h : commitFrame crc s = .ok () t) :
    ∃ out r, t = committed { s with out := out, frameOut := s.frameOut ++ [r] } ∧ FrameOutHeld t r := by
  obtain ⟨out, hrun, hholds, -⟩ := commitFrame_ok (crc := crc) (s := s)
    (f := fun c i => (SampleRam.read (sampleKey c i) s.sub).getD 0) (hc.trans hs.1.ge) (hn.trans hs.2.ge)
    fun c hlt i hi _ => by
      obtain ⟨v, hv⟩ := Option.isSome_iff_exists.mp (hw c hlt i hi)
      simp [hv]
  cases hrun.symm.trans h
  refine ⟨out, _, rfl, rfl, rfl, by simp [frameRecord], fun c hlt => ?_⟩
  have hlt : c < s.fh.channels.toNat := hlt
  refine ⟨by simp [frameRecord, hlt], fun i hi hlo => ?_⟩
  have hi : i < s.fh.blockSize.toNat := hi
  refine (hholds c hlt i hi hlo).trans ?_
  simp [frameRecord, hlt, hi]

/-! ### What a PULL leaves -/

/-- The registers that PULL alone does not write are as they were before it (R275). -/
structure PullFrame (s t : State) : Prop where
  pos : t.seq.pos = .host
  quiet : t.crc8En = false ∧ t.crc16En = false ∧ t.atPullStart = false
  cfg : t.cfg = s.cfg
  si : t.si = s.si
  md : t.md = s.md
  metadataOut : t.metadataOut = s.metadataOut
  host : t.host = s.host

theorem PullFrame.exit {s t : State} (kept : s.beforeFrame t = s) (state : CoreState) (out : SampleRam) (err : ErrorReg)
    (result : LastResult) (frames samples : BitVec 64) (records : List FrameRecord) :
    PullFrame s (exitCommand
      { t with
        state := state, out := out, err := err, lastResult := result, framesOk := frames, samplesOut := samples
        frameOut := records }) where
  pos := rfl
  quiet := ⟨rfl, rfl, rfl⟩
  cfg := (congrArg State.cfg kept :)
  si := (congrArg State.si kept :)
  md := (congrArg State.md kept :)
  metadataOut := (congrArg State.metadataOut kept :)
  host := (congrArg State.host kept :)

/-- The frame, and what else is claimed, side by side. -/
theorem PullFrame.and {s t : State} {P : Prop} (h : PullFrame s t) (hP : P) :
    t.seq.pos = .host ∧ t.crc8En = false ∧ t.crc16En = false ∧ t.atPullStart = false ∧ t.cfg = s.cfg ∧ t.si = s.si ∧
      t.md = s.md ∧ t.metadataOut = s.metadataOut ∧ t.host = s.host ∧ P :=
  ⟨h.pos, h.quiet.1, h.quiet.2.1, h.quiet.2.2, h.cfg, h.si, h.md, h.metadataOut, h.host, hP⟩

/-- A commit at the end of the run: the footer's cursor has moved, and the frame is the one whose rows are written. -/
theorem InPullRun.commit {s t u : State} (h : InPullRun s t) (hinv : s.Inv) (hs : s.holdsEveryFrame)
    (hp : t.seq.pos = .footer) {crc : BitVec 16} {n : Nat}
    (hu : commitFrame crc (({ t with crc16En := false } : State).skip n) = .ok () u) :
    ∃ v out r, s.beforeFrame v = s ∧ u = committed { v with out := out, frameOut := v.frameOut ++ [r] } ∧ FrameOutHeld u r := by
  have hmoves : s.beforeFrame (({ t with crc16En := false } : State).skip n) = s :=
    beforeFrame_trans (t := { t with crc16En := false }) h.kept (Moves.skip n _).kept
  have hsize : State.holdsEveryFrame (({ t with crc16En := false } : State).skip n) :=
    hs.of_cfg (congrArg State.cfg hmoves :)
  have ht := h.inv hinv hs
  have hrows := ht.frame
  rw [State.frameInv, hp] at hrows
  obtain ⟨out, r, hcommit, hheld⟩ := commitFrame_written hsize (by simpa using ht.channels) (by simpa using ht.blockSize)
    (by simpa [State.rowsWritten] using hrows) hu
  exact ⟨_, out, r, hmoves, hcommit, hheld⟩

/-- Settles O28: under the invariant PULL answers (`command_keeps_inv`), and the end of its run (`pull_ends`) is one of the three
stated; the counted samples being all out is the second without a run. -/
theorem pullAlwaysEnds : Obligations.PullAlwaysEnds := by
  intro s hinv hs hp hready
  obtain ⟨t, ht, -⟩ := command_keeps_inv (i := .cmdPull) rfl hinv hs hp
  refine ⟨t, ht, ?_⟩
  by_cases htotal : s.si.total ≠ 0 ∧ s.si.total.toNat ≤ s.samplesOut.toNat
  · rw [exec_cmdPull_ready hp hready, if_pos (totalReached_iff.mpr htotal)] at ht
    cases ht
    have hframe : PullFrame s { s with state := .ended, lastResult := .ended } :=
      ⟨hp, hinv.quiet (by simp [hp, inPull]), rfl, rfl, rfl, rfl, rfl⟩
    exact hframe.and (.inr (.inl ⟨rfl, rfl, rfl, rfl, rfl, rfl, rfl⟩))
  rw [exec_cmdPull_runs hp hready htotal] at ht
  obtain ⟨-, hend⟩ := pull_ends hready ht
  cases hend with
  | @error u kept position k sub io =>
    have hstate : (errorEntry k sub io u).state = .ready := by
      rw [errorEntry_state, (inPull_eq_true.mp position).2]
      exact (congrArg State.state kept :).trans hready
    refine (PullFrame.exit kept ..).and (.inr (.inr ⟨hstate, rfl, ⟨k, rfl⟩, rfl, rfl, ?_, ?_, ?_, ?_⟩))
    exacts [(congrArg State.framesOk kept :), (congrArg State.samplesOut kept :), (congrArg State.out kept :), (congrArg State.frameOut kept :)]
  | sequenceEnd kept source =>
    refine (PullFrame.exit kept ..).and (.inr (.inl ⟨rfl, rfl, ?_, ?_, ?_, ?_, ?_⟩))
    exacts [(congrArg State.err kept :), (congrArg State.framesOk kept :), (congrArg State.samplesOut kept :), (congrArg State.out kept :),
      (congrArg State.frameOut kept :)]
  | commit run position crc n hcommit =>
    obtain ⟨v, out, r, kept, rfl, hheld⟩ := run.commit hinv hs position hcommit
    have hport : v.frameOut = s.frameOut := (congrArg State.frameOut kept :)
    have hframes : v.framesOk = s.framesOk := (congrArg State.framesOk kept :)
    have hsamples : v.samplesOut = s.samplesOut := (congrArg State.samplesOut kept :)
    refine (PullFrame.exit kept ..).and (.inl ⟨(congrArg State.state kept :).trans hready, rfl, (congrArg State.err kept :), ?_, ?_, r,
      ?_, hheld.blockSize, hheld.channels, hheld.rows, hheld.row⟩)
    · exact congrArg (· + 1) hframes
    · exact congrArg (· + v.fh.blockSize.setWidth 64) hsamples
    · exact congrArg (· ++ [r]) hport

/-! ### The end of the sequence (R276) -/

/-- With the source at its end PULL's run is its first element's read (R133). -/
theorem pull_atEof {s : State} (hsrc : s.src = []) :
    runCommand (beginPull s) = .next (endOfSequence (beginPull s)) := by
  have hstream : (beginPull s).stream = [] := by
    have h0 : (beginPull s).bitsLeft = 0 := rfl
    have hsrc' : (beginPull s).src = [] := hsrc
    rw [State.stream, h0, hsrc']
    rfl
  have hne : (beginPull s).seq.pos ≠ .host := nofun
  have hnone : (beginPull s).noByte = endOfSequence (beginPull s) := noByte_eof hsrc
  obtain ⟨m, he, hm⟩ := elementStep_eq (s := beginPull s) (Nat.zero_le 8) hne
  obtain ⟨f, rfl, -⟩ := sync_readsBit he
  have hstep : elementStep (beginPull s) = .next (endOfSequence (beginPull s)) := by
    rw [hm, outcome_ended (bind_error (readBit_none hstream)), hnone]
  rw [runCommand, commandFuel_eq, drain_element hne hstep]
  exact drain_host rfl

/-- A run of PULL that gives END is one from the source's end. -/
theorem pull_endsSequence {s t : State} (hready : s.state = .ready) (h : runCommand (beginPull s) = .next t)
    (hended : t.lastResult = .ended) : t.state = .ended ∧ s.src = [] := by
  obtain ⟨-, hend⟩ := pull_ends hready h
  cases hend with
  | error => cases hended
  | sequenceEnd _ source => exact ⟨rfl, source⟩
  | commit _ _ _ _ hcommit => exact nomatch hended.symm.trans (committed_of_commitFrame hcommit).1

/-- Settles O25: the three cases by the state PULL finds, and the converse by the end of its run (`pull_endsSequence`). -/
theorem pullEndsTheSequence : Obligations.PullEndsTheSequence := by
  intro s hp
  refine ⟨exec_cmdPull_ended hp, fun hready hne hle => ?_, fun hready htotal hsrc => ?_, fun t _ h hended => ?_⟩
  · rw [exec_cmdPull_ready hp hready, if_pos (totalReached_iff.mpr ⟨hne, hle⟩)]
  · have hseq : { s.seq with pos := .host } = s.seq := by rw [← hp]
    rw [exec_cmdPull_runs hp hready htotal, pull_atEof hsrc, ← hseq]
    rfl
  · have hport : t.frameOut = s.frameOut := by
      obtain ⟨hport, -⟩ | ⟨hframe, -⟩ := exec_output h nofun
      · exact hport
      · exact nomatch hended.symm.trans hframe
    cases hs : s.state with
    | idle =>
      rw [exec_cmdPull_rejected hp (.inl hs)] at h
      cases h
      cases hended
    | failed =>
      rw [exec_cmdPull_rejected hp (.inr hs)] at h
      cases h
      cases hended
    | ended =>
      rw [exec_cmdPull_ended hp hs] at h
      cases h
      exact ⟨hs, hport, .inl rfl⟩
    | ready =>
      by_cases htotal : s.si.total ≠ 0 ∧ s.si.total.toNat ≤ s.samplesOut.toNat
      · rw [exec_cmdPull_ready hp hs, if_pos (totalReached_iff.mpr htotal)] at h
        cases h
        exact ⟨rfl, hport, .inr ⟨rfl, .inl htotal⟩⟩
      · rw [exec_cmdPull_runs hp hs htotal] at h
        obtain ⟨hstate, hsrc⟩ := pull_endsSequence hs h hended
        exact ⟨hstate, hport, .inr ⟨rfl, .inr hsrc⟩⟩

end Sys2Proof.Machine

/-!
Error entry (R302, R304, R306 to R308): `STATE` by the positions of OPEN, and the whole of what an error writes and keeps.
-/

namespace Sys2Proof.Machine

/-- R140: OPEN's own positions are the marker and the metadata blocks. -/
theorem inOpen_eq_true {p : Position} : inOpen p = true ↔ p = .marker ∨ p = .metadata := by
  cases p <;> decide

/-- R307, R308: `STATE` after error entry, by the positions of OPEN. -/
theorem errorEntry_state_eq (k : ErrorKind) (sub : Nat) (io : BitVec 32) (s : State) :
    (errorEntry k sub io s).state = if s.seq.pos = .marker ∨ s.seq.pos = .metadata then .failed else s.state := by
  simp only [errorEntry_state, inOpen_eq_true]

/-- Settles O22: the codes are the table's, the written `STATE` is `errorEntry_state_eq`, and every other field is as error entry
writes or leaves it. -/
theorem errorEntry_writesAndKeeps : Obligations.ErrorEntry := by
  refine ⟨rfl, fun k sub io s => ⟨?_, raise_run k sub s⟩⟩
  rw [← errorEntry_state_eq k sub io s]
  rfl

end Sys2Proof.Machine

/-!
Decoding against encoding (R80 to R104): every well-formed instruction is read back from its encoding, and what is read is a
well-formed instruction whose encoding is the bits taken.
-/

namespace Sys2Proof

open Machine

/-! ### Reading back: the elements of one field -/

section ReadsBack

variable (align : Nat) (more : Bits)

/-- A position whose row is its operand (R81, R90, R97 to R101). -/
theorem decode_operand {pos : Position} {n : Nat} {row : BitVec n → Instr}
    (hpos : ∀ bs, decode pos align bs = field n bs >>= fun (v, r) => .ok (row (.ofNat n v), r)) (x : BitVec n) :
    decode pos align (natToBits n x.toNat ++ more) = .ok (row x, more) := by
  rw [hpos, field_natToBits_bind x.isLt]
  dsimp only
  rw [BitVec.ofNat_toNat, BitVec.setWidth_eq]

theorem decode_hostCode {c : Nat} (hc : c < 4) : decode .host align (natToBits 2 c ++ more) = .ok (commandOf c, more) :=
  field_natToBits_bind hc _ _

theorem decode_bsCode {k : Nat} (hk : k < 16) : decode .bsCode align (natToBits 4 k ++ more) = .ok (bsCodeOf k, more) :=
  field_natToBits_bind hk _ _

theorem decode_srCode {k : Nat} (hk : k < 16) : decode .srCode align (natToBits 4 k ++ more) = .ok (srCodeOf k, more) :=
  field_natToBits_bind hk _ _

theorem decode_chCode {k : Nat} (hk : k < 16) : decode .chCode align (natToBits 4 k ++ more) = .ok (chCodeOf k, more) :=
  field_natToBits_bind hk _ _

theorem decode_number {b : Nat} (hb : b < 256) : decode .number align (natToBits 8 b ++ more) = .ok (numberLeadOf b, more) :=
  field_natToBits_bind hb _ _

theorem decode_part4 {k : Nat} (hk : k < 16) :
    decode .part4 align (natToBits 4 k ++ more) = .ok (if k = 15 then .part4Escape else .part4K (.ofNat 4 k), more) :=
  field_natToBits_bind hk _ _

theorem decode_part5 {k : Nat} (hk : k < 32) :
    decode .part5 align (natToBits 5 k ++ more) = .ok (if k = 31 then .part5Escape else .part5K (.ofNat 5 k), more) :=
  field_natToBits_bind hk _ _

/-! ### Reading back: the elements of several fields -/

/-- A field of one bit is read, whatever is decoded after it. -/
theorem field_bit_bind {α : Type} (b : Bool) (rest : Bits) (f : Nat × Bits → Except DecodeError α) :
    field 1 (b :: rest) >>= f = f (b.toNat, rest) := by
  rw [field_bit]
  rfl

theorem decode_metadata (last : Bool) {type : Nat} (ht : type < 128) (len : BitVec 24) :
    decode .metadata align (last :: natToBits 7 type ++ natToBits 24 len.toNat ++ more) = .ok (metadataOf last type len, more) := by
  have hlast : (last.toNat == 1) = last := by cases last <;> rfl
  rw [List.append_assoc, List.cons_append, decode, field_bit_bind]
  dsimp only
  rw [field_natToBits_bind ht]
  dsimp only
  rw [field_natToBits_bind len.isLt, hlast, BitVec.ofNat_toNat, BitVec.setWidth_eq]

theorem decode_badSync {sync : BitVec 14} (h : sync.toNat ≠ syncCode) :
    decode .sync align (natToBits 14 sync.toNat ++ more) = .ok (.fhBadSync sync, more) := by
  rw [decode, field_natToBits_bind sync.isLt]
  dsimp only
  rw [if_pos h, BitVec.ofNat_toNat, BitVec.setWidth_eq]

theorem decode_reservedA : decode .sync align (natToBits 14 syncCode ++ true :: more) = .ok (.fhReservedA1, more) := by
  rw [decode, field_natToBits_bind (by decide)]
  rfl

theorem decode_blocking (b : Bool) :
    decode .sync align (natToBits 14 syncCode ++ false :: b :: more) =
      .ok (if b then .fhBlocking1 else .fhBlocking0, more) := by
  rw [decode, field_natToBits_bind (by decide)]
  cases b <;> rfl

theorem decode_bpsCode {k : Nat} (hk : k < 8) (reserved : Bool) :
    decode .bpsCode align (natToBits 3 k ++ reserved :: more) =
      .ok (if reserved then .fhReservedB1 (.ofNat 3 k) else bpsCodeOf k, more) := by
  rw [decode, field_natToBits_bind hk]
  cases reserved <;> rfl

theorem decode_reservedType {type : Nat} {i : Instr} (ht : type < 64) (h : reservedSubframeOf type = some i) :
    decode .subframe align (false :: natToBits 6 type ++ more) = .ok (i, more) := by
  rw [List.cons_append, decode, field_bit_bind]
  dsimp only
  rw [if_neg (by decide), field_natToBits_bind ht]
  dsimp only
  rw [h]

theorem decode_subframe {type : Nat} (ht : type < 64) (h : reservedSubframeOf type = none) (wasted : Bool) :
    decode .subframe align (false :: natToBits 6 type ++ [wasted] ++ more) = .ok (subframeOf type wasted, more) := by
  have hwasted : (wasted.toNat == 1) = wasted := by cases wasted <;> rfl
  rw [List.append_assoc, List.cons_append, decode, field_bit_bind]
  dsimp only
  rw [if_neg (by decide), field_natToBits_bind ht]
  dsimp only
  rw [h]
  dsimp only
  rw [List.singleton_append, field_bit_bind, hwasted]

theorem decode_badMethod {m : Nat} (h2 : 2 ≤ m) (h4 : m < 4) :
    decode .residual align (natToBits 2 m ++ more) = .ok (.resMethod2To3 (.ofNat 1 m), more) := by
  rw [decode, field_natToBits_bind h4]
  dsimp only
  rw [if_pos h2]

theorem decode_method {m : Nat} (hm : m < 2) (porder : BitVec 4) :
    decode .residual align (natToBits 2 m ++ natToBits 4 porder.toNat ++ more) =
      .ok (if m = 0 then .resMethod0 porder else .resMethod1 porder, more) := by
  rw [List.append_assoc, decode, field_natToBits_bind (by omega)]
  dsimp only
  rw [if_neg (by omega), field_natToBits_bind porder.isLt]
  dsimp only
  rw [BitVec.ofNat_toNat, BitVec.setWidth_eq]

end ReadsBack

/-! ### The rows that hold the low bits of their code -/

/-- A code that is a row's base and its operand gives the operand back where the base has no bits of the operand's width. -/
theorem ofNat_base_add {n base : Nat} (h : base % 2 ^ n = 0) (x : BitVec n) : BitVec.ofNat n (base + x.toNat) = x := by
  apply BitVec.eq_of_toNat_eq
  rw [BitVec.toNat_ofNat, Nat.add_mod, h, Nat.zero_add, Nat.mod_mod, Nat.mod_eq_of_lt x.isLt]

/-- The types of the unknown blocks (R82). -/
theorem metadataOf_unknown (last : Bool) {type : Nat} (len : BitVec 24) (h : 8 ≤ type) :
    metadataOf last type len =
      if type < 16 then .mdUnknownTypes8To15 last (.ofNat 3 type) len
      else if type < 32 then .mdUnknownTypes16To31 last (.ofNat 4 type) len
      else if type < 64 then .mdUnknownTypes32To63 last (.ofNat 5 type) len
      else .mdUnknownTypes64To127 last (.ofNat 6 type) len := by
  unfold metadataOf
  split
  case h_9 => rfl
  all_goals omega

/-- Every well-formed instruction is read back from its encoding, whatever follows (R80 to R102). -/
theorem readsBack_of_wellFormed {i : Instr} (h : i.wellFormed = true) : ReadsBack i i.align := by
  intro more
  cases i with
  | cmdReset | cmdOpen | cmdPull | cmdReserved3 => exact decode_hostCode _ _ (by decide)
  | marker x | numContinuation x | bs8 x | bs16 x | sr8 x | sr16 x | sr16x10 x | crc8 x | esc x | crc16 x =>
    exact decode_operand _ _ (fun _ => rfl) x
  | mdStreaminfo last len | mdPadding last len | mdApplication last len | mdSeektable last len | mdVorbisComment last len
  | mdCuesheet last len | mdPicture last len | mdUnknownTypes7To7 last len =>
    exact decode_metadata _ _ last (by decide) len
  | mdUnknownTypes8To15 last t len | mdUnknownTypes16To31 last t len | mdUnknownTypes32To63 last t len
  | mdUnknownTypes64To127 last t len =>
    have ht := t.isLt
    refine (decode_metadata _ _ last (by omega) len).trans ?_
    rw [metadataOf_unknown _ _ (by omega)]
    simp (disch := omega) only [if_pos, if_neg]
    rw [ofNat_base_add rfl]
  | fhBlocking0 => exact decode_blocking _ _ false
  | fhBlocking1 => exact decode_blocking _ _ true
  | fhBadSync sync => exact decode_badSync _ _ (by simpa [Instr.wellFormed] using h)
  | fhReservedA1 => exact decode_reservedA _ _
  | fhBs0 | fhBs1 | fhBs2 | fhBs3 | fhBs4 | fhBs5 | fhBs6 | fhBs7 | fhBs8 | fhBs9 | fhBs10 | fhBs11 | fhBs12 | fhBs13 | fhBs14
  | fhBs15 => exact decode_bsCode _ _ (by decide)
  | fhSr0 | fhSr1 | fhSr2 | fhSr3 | fhSr4 | fhSr5 | fhSr6 | fhSr7 | fhSr8 | fhSr9 | fhSr10 | fhSr11 | fhSr12 | fhSr13 | fhSr14
  | fhSr15 => exact decode_srCode _ _ (by decide)
  | fhCh0 | fhCh1 | fhCh2 | fhCh3 | fhCh4 | fhCh5 | fhCh6 | fhCh7 | fhCh8 | fhCh9 | fhCh10 | fhCh11 | fhCh12 | fhCh13 | fhCh14
  | fhCh15 => exact decode_chCode _ _ (by decide)
  | fhBps0 | fhBps1 | fhBps2 | fhBps3 | fhBps4 | fhBps5 | fhBps6 | fhBps7 => exact decode_bpsCode _ _ (by decide) false
  | fhReservedB1 bps =>
    refine (decode_bpsCode _ _ bps.isLt true).trans ?_
    rw [if_pos rfl, BitVec.ofNat_toNat, BitVec.setWidth_eq]
    rfl
  | numLead00 x | numLead80 x | numLeadC0 x | numLeadE0 x | numLeadF0 x | numLeadF8 x | numLeadFC x =>
    have hx := x.isLt
    refine (decode_number _ _ (by omega)).trans ?_
    rw [numberLeadOf]
    simp (disch := omega) only [if_pos, if_neg]
    rw [ofNat_base_add rfl]
  | numLeadFE | numLeadFF => exact decode_number _ _ (by decide)
  | sfReserved1 => exact field_bit_bind true more _
  | sfConstant wasted | sfVerbatim wasted | sfFixed0 wasted | sfFixed1 wasted | sfFixed2 wasted | sfFixed3 wasted | sfFixed4 wasted
  | sfLpc1 wasted | sfLpc2 wasted | sfLpc3 wasted | sfLpc4 wasted | sfLpc5 wasted | sfLpc6 wasted | sfLpc7 wasted | sfLpc8 wasted
  | sfLpc9 wasted | sfLpc10 wasted | sfLpc11 wasted | sfLpc12 wasted | sfLpc13 wasted | sfLpc14 wasted | sfLpc15 wasted
  | sfLpc16 wasted | sfLpc17 wasted | sfLpc18 wasted | sfLpc19 wasted | sfLpc20 wasted | sfLpc21 wasted | sfLpc22 wasted
  | sfLpc23 wasted | sfLpc24 wasted | sfLpc25 wasted | sfLpc26 wasted | sfLpc27 wasted | sfLpc28 wasted | sfLpc29 wasted
  | sfLpc30 wasted | sfLpc31 wasted | sfLpc32 wasted => exact decode_subframe _ _ (by decide) rfl wasted
  | sfReservedType13 => exact decode_reservedType _ _ (by decide) rfl
  | sfReservedTypes2To3 x | sfReservedTypes4To7 x | sfReservedTypes14To15 x | sfReservedTypes16To31 x =>
    have hx := x.isLt
    refine decode_reservedType _ _ (by omega) ?_
    rw [reservedSubframeOf]
    simp (disch := omega) only [if_pos, if_neg]
    rw [ofNat_base_add rfl]
  | resMethod0 porder | resMethod1 porder => exact decode_method _ _ (by decide) porder
  | resMethod2To3 x =>
    have hx := x.isLt
    refine (decode_badMethod _ _ (by omega) (by omega)).trans ?_
    rw [ofNat_base_add rfl]
  | part4K k =>
    have hk : k.toNat ≠ 15 := by simpa [Instr.wellFormed, ← BitVec.toNat_inj] using h
    refine (decode_part4 _ _ k.isLt).trans ?_
    rw [if_neg hk, BitVec.ofNat_toNat, BitVec.setWidth_eq]
  | part5K k =>
    have hk : k.toNat ≠ 31 := by simpa [Instr.wellFormed, ← BitVec.toNat_inj] using h
    refine (decode_part5 _ _ k.isLt).trans ?_
    rw [if_neg hk, BitVec.ofNat_toNat, BitVec.setWidth_eq]
  | part4Escape => exact decode_part4 _ _ (by decide)
  | part5Escape => exact decode_part5 _ _ (by decide)
  | pad bits => exact readsBack_pad bits more

/-- Settles O9: each row by its position's fields (`readsBack_of_wellFormed`). -/
theorem decodeOfEncode : Obligations.DecodeOfEncode := fun _ rest h => readsBack_of_wellFormed h rest

/-- Settles O11: each word is its row's encoding (R81 to R102), so the decoder reads it back. -/
theorem sampleWordsDecode : Obligations.SampleWordsDecode :=
  ⟨decodeOfEncode .cmdPull [] rfl, decodeOfEncode (.mdStreaminfo true 34) [] rfl, decodeOfEncode .fhBlocking1 [] rfl,
    decodeOfEncode .fhCh10 [] rfl, decodeOfEncode .fhBps4 [] rfl, decodeOfEncode (.numLeadE0 1) [] rfl,
    decodeOfEncode (.sfFixed2 false) [] rfl, decodeOfEncode (.sfLpc2 true) [] rfl, decodeOfEncode (.resMethod1 3) [] rfl,
    decodeOfEncode .part4Escape [] rfl, decodeOfEncode (.crc16 0x14B9) [] rfl⟩

/-! ### Exactness: the bits a field takes -/

/-- Bits are the pattern of some number of their width (R9). -/
theorem exists_natToBits (bits : Bits) : ∃ v < 2 ^ bits.length, natToBits bits.length v = bits := by
  induction bits with
  | nil => exact ⟨0, by decide, rfl⟩
  | cons b bits ih =>
    obtain ⟨v, hv, hbits⟩ := ih
    have htop : (v + 2 ^ bits.length * b.toNat).testBit bits.length = b := by
      rw [Nat.testBit_eq_decide_div_mod_eq, Nat.add_mul_div_left _ _ (Nat.two_pow_pos _), Nat.div_eq_of_lt hv]
      cases b <;> rfl
    have hlow : natToBits bits.length (v + 2 ^ bits.length * b.toNat) = bits := by
      rw [← natToBits_mod le_rfl, Nat.add_mul_mod_self_left, natToBits_mod le_rfl, hbits]
    refine ⟨v + 2 ^ bits.length * b.toNat, ?_, ?_⟩
    · have hb := Nat.mul_le_mul_left (2 ^ bits.length) (Nat.lt_succ_iff.mp b.toNat_lt)
      rw [List.length_cons, Nat.pow_succ]
      omega
    · rw [List.length_cons, natToBits_succ, htop, hlow]

/-- A field that is read is the pattern of its value, and the rest follows it (R103). -/
theorem field_eq_ok {n v : Nat} {bs rest : Bits} (h : field n bs = .ok (v, rest)) :
    v < 2 ^ n ∧ bs = natToBits n v ++ rest := by
  unfold field at h
  split at h
  case isFalse => cases h
  case isTrue hn =>
    cases h
    obtain ⟨v, hv, hbits⟩ := exists_natToBits (bs.take n)
    rw [List.length_take, Nat.min_eq_left hn] at hv hbits
    rw [← hbits, bitsToNat_natToBits, Nat.zero_mul, Nat.zero_add, Nat.mod_eq_of_lt hv, hbits]
    exact ⟨hv, (List.take_append_drop n bs).symm⟩

/-- What a field and an operation on its value answer. -/
theorem field_bind_eq_ok {α : Type} {n : Nat} {bs : Bits} {f : Nat × Bits → Except DecodeError α} {a : α}
    (h : field n bs >>= f = .ok a) : ∃ v r, v < 2 ^ n ∧ bs = natToBits n v ++ r ∧ f (v, r) = .ok a := by
  cases hfield : field n bs with
  | error e =>
    rw [hfield] at h
    cases h
  | ok x =>
    obtain ⟨v, r⟩ := x
    rw [hfield] at h
    obtain ⟨hv, hbits⟩ := field_eq_ok hfield
    exact ⟨v, r, hv, hbits, h⟩

/-! ### Exactness: the rows of the codes -/

/-- The bits are those of the well-formed instruction i at the position. -/
structure Encodes (pos : Position) (bits : Bits) (i : Instr) : Prop where
  wellFormed : i.wellFormed = true
  position : i.position = pos
  encode : i.encode = bits

theorem encodes_commandOf {c : Nat} (hc : c < 4) : Encodes .host (natToBits 2 c) (commandOf c) := by
  interval_cases c <;> exact ⟨rfl, rfl, rfl⟩

theorem encodes_bsCodeOf {k : Nat} (hk : k < 16) : Encodes .bsCode (natToBits 4 k) (bsCodeOf k) := by
  interval_cases k <;> exact ⟨rfl, rfl, rfl⟩

theorem encodes_srCodeOf {k : Nat} (hk : k < 16) : Encodes .srCode (natToBits 4 k) (srCodeOf k) := by
  interval_cases k <;> exact ⟨rfl, rfl, rfl⟩

theorem encodes_chCodeOf {k : Nat} (hk : k < 16) : Encodes .chCode (natToBits 4 k) (chCodeOf k) := by
  interval_cases k <;> exact ⟨rfl, rfl, rfl⟩

theorem encodes_bpsCodeOf {k : Nat} (hk : k < 8) : Encodes .bpsCode (natToBits 3 k ++ [false]) (bpsCodeOf k) := by
  interval_cases k <;> exact ⟨rfl, rfl, rfl⟩

theorem encodes_metadataOf (last : Bool) {type : Nat} (ht : type < 128) (len : BitVec 24) :
    Encodes .metadata (last :: natToBits 7 type ++ natToBits 24 len.toNat) (metadataOf last type len) := by
  have hcode {t : Nat} (h : t = type) :
      last :: natToBits 7 t ++ natToBits 24 len.toNat = last :: natToBits 7 type ++ natToBits 24 len.toNat := by rw [h]
  by_cases h8 : type < 8
  · interval_cases type <;> exact ⟨rfl, rfl, rfl⟩
  · rw [metadataOf_unknown _ _ (by omega)]
    split_ifs
    all_goals
      refine ⟨rfl, rfl, hcode ?_⟩
      rw [BitVec.toNat_ofNat]
      omega

theorem encodes_numberLeadOf {b : Nat} (hb : b < 256) : Encodes .number (natToBits 8 b) (numberLeadOf b) := by
  unfold numberLeadOf
  split_ifs
  all_goals
    refine ⟨rfl, rfl, congrArg (natToBits 8) ?_⟩
    bv_omega

theorem encodes_reservedSubframeOf {type : Nat} {i : Instr} (ht : type < 64) (h : reservedSubframeOf type = some i) :
    Encodes .subframe (false :: natToBits 6 type) i := by
  unfold reservedSubframeOf at h
  split_ifs at h
  all_goals
    cases h
    refine ⟨rfl, rfl, congrArg (fun t => false :: natToBits 6 t) ?_⟩
    bv_omega

/-- The types that are not reserved (R92). -/
theorem selects_of_reservedSubframeOf {type : Nat} (h : reservedSubframeOf type = none) :
    type < 2 ∨ 8 ≤ type ∧ type < 13 ∨ 32 ≤ type := by
  unfold reservedSubframeOf at h
  split_ifs at h
  all_goals omega

theorem encodes_subframeOf {type : Nat} (ht : type < 64) (h : reservedSubframeOf type = none) (wasted : Bool) :
    Encodes .subframe (false :: natToBits 6 type ++ [wasted]) (subframeOf type wasted) := by
  obtain hlo | ⟨h8, h13⟩ | hhi := selects_of_reservedSubframeOf h
  all_goals
    clear h
    interval_cases type <;> exact ⟨rfl, rfl, rfl⟩

/-- An operand is its field's value. -/
theorem natToBits_ofNat {n v : Nat} (hv : v < 2 ^ n) : natToBits n (BitVec.ofNat n v).toNat = natToBits n v := by
  rw [BitVec.toNat_ofNat, Nat.mod_eq_of_lt hv]

/-- A field of one bit is read from that bit. -/
theorem natToBits_one {v : Nat} (hv : v < 2 ^ 1) : natToBits 1 v = [v == 1] := by
  interval_cases v <;> rfl

/-! ### Exactness: the positions -/

section Exactness

variable {align : Nat} {bs rest : Bits} {i : Instr}

/-- A position of one field, by the rows of its codes. -/
theorem encodes_of_decode_code {pos : Position} {n : Nat} {row : Nat → Instr}
    (hpos : ∀ bs, decode pos align bs = field n bs >>= fun (v, r) => .ok (row v, r))
    (hrow : ∀ {v}, v < 2 ^ n → Encodes pos (natToBits n v) (row v)) (h : decode pos align bs = .ok (i, rest)) :
    ∃ bits, bs = bits ++ rest ∧ Encodes pos bits i := by
  rw [hpos] at h
  obtain ⟨v, r, hv, rfl, hread⟩ := field_bind_eq_ok h
  cases hread
  exact ⟨_, rfl, hrow hv⟩

theorem encodes_of_decode_metadata (h : decode .metadata align bs = .ok (i, rest)) :
    ∃ bits, bs = bits ++ rest ∧ Encodes .metadata bits i := by
  obtain ⟨last, r, hlast, rfl, hnext⟩ := field_bind_eq_ok h
  obtain ⟨type, r, htype, rfl, hnext'⟩ := field_bind_eq_ok hnext
  obtain ⟨len, r, hlen, rfl, hrow⟩ := field_bind_eq_ok hnext'
  cases hrow
  refine ⟨_, ?_, encodes_metadataOf _ htype _⟩
  rw [natToBits_ofNat hlen, natToBits_one hlast, List.singleton_append, List.append_assoc, List.cons_append]

theorem encodes_of_decode_sync (h : decode .sync align bs = .ok (i, rest)) :
    ∃ bits, bs = bits ++ rest ∧ Encodes .sync bits i := by
  obtain ⟨sync, r, hsync, rfl, hnext⟩ := field_bind_eq_ok h
  dsimp only at hnext
  split_ifs at hnext with hbad
  · cases hnext
    refine ⟨_, rfl, bne_iff_ne.mpr ?_, rfl, natToBits_ofNat hsync⟩
    rwa [BitVec.toNat_ofNat, Nat.mod_eq_of_lt hsync]
  · obtain rfl := not_not.mp hbad
    obtain ⟨reserved, r, hreserved, rfl, hnext'⟩ := field_bind_eq_ok hnext
    rw [natToBits_one hreserved]
    dsimp only at hnext'
    split_ifs at hnext' with hone
    · cases hnext'
      subst hone
      exact ⟨natToBits 14 syncCode ++ [true], (List.append_assoc ..).symm, rfl, rfl, rfl⟩
    · obtain ⟨blocking, r, hblocking, rfl, hrow⟩ := field_bind_eq_ok hnext'
      cases hrow
      rw [natToBits_one hblocking, beq_false_of_ne hone]
      refine ⟨natToBits 14 syncCode ++ [false, blocking == 1], (List.append_assoc ..).symm, ?_⟩
      interval_cases blocking <;> exact ⟨rfl, rfl, rfl⟩

theorem encodes_of_decode_bpsCode (h : decode .bpsCode align bs = .ok (i, rest)) :
    ∃ bits, bs = bits ++ rest ∧ Encodes .bpsCode bits i := by
  obtain ⟨k, r, hk, rfl, hnext⟩ := field_bind_eq_ok h
  obtain ⟨reserved, r, hreserved, rfl, hrow⟩ := field_bind_eq_ok hnext
  cases hrow
  rw [natToBits_one hreserved]
  refine ⟨natToBits 3 k ++ [reserved == 1], (List.append_assoc ..).symm, ?_⟩
  split_ifs with hone
  · subst hone
    exact ⟨rfl, rfl, congrArg (· ++ [true]) (natToBits_ofNat hk)⟩
  · rw [beq_false_of_ne hone]
    exact encodes_bpsCodeOf hk

theorem encodes_of_decode_subframe (h : decode .subframe align bs = .ok (i, rest)) :
    ∃ bits, bs = bits ++ rest ∧ Encodes .subframe bits i := by
  obtain ⟨reserved, r, hreserved, rfl, hnext⟩ := field_bind_eq_ok h
  rw [natToBits_one hreserved]
  dsimp only at hnext
  split_ifs at hnext with hone
  · cases hnext
    subst hone
    exact ⟨_, rfl, rfl, rfl, rfl⟩
  · obtain ⟨type, r, htype, rfl, hnext'⟩ := field_bind_eq_ok hnext
    rw [beq_false_of_ne hone, List.singleton_append, ← List.cons_append]
    cases htypeRow : reservedSubframeOf type with
    | some j =>
      simp only [htypeRow] at hnext'
      cases hnext'
      exact ⟨_, rfl, encodes_reservedSubframeOf htype htypeRow⟩
    | none =>
      simp only [htypeRow] at hnext'
      obtain ⟨wasted, r, hwasted, rfl, hrow⟩ := field_bind_eq_ok hnext'
      cases hrow
      rw [natToBits_one hwasted, ← List.append_assoc]
      exact ⟨_, rfl, encodes_subframeOf htype htypeRow _⟩

theorem encodes_of_decode_residual (h : decode .residual align bs = .ok (i, rest)) :
    ∃ bits, bs = bits ++ rest ∧ Encodes .residual bits i := by
  obtain ⟨method, r, hmethod, rfl, hnext⟩ := field_bind_eq_ok h
  by_cases hbad : 2 ≤ method
  · simp only [if_pos hbad] at hnext
    cases hnext
    refine ⟨_, rfl, rfl, rfl, congrArg (natToBits 2) ?_⟩
    bv_omega
  · simp only [if_neg hbad] at hnext
    obtain ⟨porder, r, hporder, rfl, hrow⟩ := field_bind_eq_ok hnext
    cases hrow
    refine ⟨natToBits 2 method ++ natToBits 4 porder, (List.append_assoc ..).symm, ?_⟩
    obtain rfl | rfl : method = 0 ∨ method = 1 := by omega
    all_goals exact ⟨rfl, rfl, congrArg (natToBits 2 _ ++ ·) (natToBits_ofNat hporder)⟩

/-- What is read at a position is a well-formed instruction of it, and its encoding is the bits taken (R104). -/
theorem encodes_of_decode {pos : Position} (halign : align < 8) (h : decode pos align bs = .ok (i, rest)) :
    ∃ bits, bs = bits ++ rest ∧ Encodes pos bits i := by
  cases pos with
  | metadata => exact encodes_of_decode_metadata h
  | sync => exact encodes_of_decode_sync h
  | bpsCode => exact encodes_of_decode_bpsCode h
  | subframe => exact encodes_of_decode_subframe h
  | residual => exact encodes_of_decode_residual h
  | host => exact encodes_of_decode_code (fun _ => rfl) encodes_commandOf h
  | bsCode => exact encodes_of_decode_code (fun _ => rfl) encodes_bsCodeOf h
  | srCode => exact encodes_of_decode_code (fun _ => rfl) encodes_srCodeOf h
  | chCode => exact encodes_of_decode_code (fun _ => rfl) encodes_chCodeOf h
  | number => exact encodes_of_decode_code (fun _ => rfl) encodes_numberLeadOf h
  | marker | numCont | bs8 | bs16 | sr8 | sr16 | sr16x10 | crc8 | esc | footer =>
    obtain ⟨v, r, hv, rfl, hrow⟩ := field_bind_eq_ok h
    cases hrow
    exact ⟨_, rfl, rfl, rfl, natToBits_ofNat hv⟩
  | part4 | part5 =>
    obtain ⟨k, r, hk, rfl, hrow⟩ := field_bind_eq_ok h
    cases hrow
    refine ⟨_, rfl, ?_⟩
    split_ifs with hescape
    · exact ⟨rfl, rfl, congrArg (natToBits _) hescape.symm⟩
    · refine ⟨bne_iff_ne.mpr ?_, rfl, natToBits_ofNat hk⟩
      bv_omega
  | pad =>
    rw [decode] at h
    split_ifs at h with hlen
    cases h
    refine ⟨bs.take align, (List.take_append_drop ..).symm, ?_, rfl, rfl⟩
    rw [Instr.wellFormed, decide_eq_true_eq, List.length_take]
    omega

end Exactness

/-- Settles O10: the fields of each position (`encodes_of_decode`), and `decode_ok` for totality. -/
theorem decodeIsExact : Obligations.DecodeIsExact := by
  refine fun pos align bs halign => ⟨fun i rest h => ?_, fun hlen => ?_⟩
  · obtain ⟨bits, rfl, hi⟩ := encodes_of_decode halign h
    exact ⟨hi.wellFormed, hi.position, congrArg (· ++ rest) hi.encode⟩
  · obtain ⟨i, rest, h, -⟩ := decode_ok pos (halign.le.trans (by decide)) hlen
    exact ⟨i, rest, h⟩

end Sys2Proof

/-!
NUMBER (R180) byte by byte, and the StreamInfo block as the first of its stream (R145).
-/

namespace Sys2Proof.Machine

/-! ### The StreamInfo block -/

/-- Settles O31: the block as OPEN reads it (`streamInfoBlock_ok`), and what its end leaves for either value of the last flag. -/
theorem streamInfoBlockDecodes : Obligations.StreamInfoBlockDecodes := by
  intro last si rest s henc hcount h
  have hrow : exec (.mdStreaminfo last 34) s = outcome (streamInfoBlock last 34) s := rfl
  obtain ⟨hrun, -⟩ := streamInfoBlock_ok henc hcount h
  rw [hrow, outcome_ok hrun, State.blockEnd, State.streamInfoRead]
  cases last <;> simp [countBlock, State.withHeader, State.withStreamInfo, State.withRecord, opened, hcount]

/-! ### The first byte of NUMBER -/

/-- A first byte of an allowed length is NUMBER's start, and the one byte of a short number holds few bits (R90). -/
theorem exec_of_numberLead {i : Instr} {len x : Nat} (h : i.numberLead? = some (len, x)) :
    (len = 1 → x < 2 ^ 36) ∧ ∀ s, exec i s = outcome (numberLead len x) s := by
  unfold Instr.numberLead? at h
  split at h
  case h_1 x =>
    cases h
    exact ⟨fun _ => x.isLt.trans (by decide), fun _ => rfl⟩
  case h_8 => cases h
  all_goals
    cases h
    exact ⟨nofun, fun _ => rfl⟩

/-- A first byte that starts a longer number leaves its bits and the count of bytes to come in the sequencer (R180). -/
theorem numberLead_more {len : Nat} (x : Nat) {s : State} (h : 8 ≤ s.stream.length) (hlen : len ≠ 1)
    (hblocking : ¬(len = 7 ∧ s.fh.blocking = false)) :
    numberLead len x s = .ok () { s.skip 8 with
      seq.numLeft := BitVec.ofNat 3 (len - 1), seq.numAcc := BitVec.ofNat 36 x, seq.pos := .numCont } := by
  have hcheck : raiseIf (len == 7 && !s.fh.blocking) .invalidFrameNumber 0 (s.skip 8) = .ok () (s.skip 8) := by
    rw [raiseIf_run, if_neg (by simpa using hblocking)]
  rw [numberLead, bind_ok (skipBits_ok h), bind_ok (ask_run _ _), skip_fh, bind_ok hcheck, if_neg hlen]
  rfl

/-- A frame number has at most six bytes (R180). -/
theorem numberLead_refuses (x : Nat) {s : State} (h : 8 ≤ s.stream.length) (hblocking : s.fh.blocking = false) :
    numberLead 7 x s = .error .ended (errorEntry .invalidFrameNumber 0 0 (s.skip 8)) := by
  have hcheck : raiseIf (7 == 7 && !s.fh.blocking) .invalidFrameNumber 0 (s.skip 8) =
      .error .ended (errorEntry .invalidFrameNumber 0 0 (s.skip 8)) := by
    rw [raiseIf_run, if_pos (by simpa using hblocking)]
  rw [numberLead, bind_ok (skipBits_ok h), bind_ok (ask_run _ _), skip_fh, bind_error hcheck]

theorem badNumberLead_run {s : State} (h : 8 ≤ s.stream.length) :
    badNumberLead s = .error .ended (errorEntry .invalidFrameNumber 0 0 (s.skip 8)) := by
  rw [badNumberLead, bind_ok (skipBits_ok h), raise_run]

theorem setWidth_ofNat_of_lt {m n x : Nat} (hx : x < 2 ^ m) : (BitVec.ofNat m x).setWidth n = BitVec.ofNat n x := by
  rw [← BitVec.ofNat_toNat, BitVec.toNat_ofNat, Nat.mod_eq_of_lt hx]

/-- Settles O37: the refusal of a seven-byte frame number, a number of one byte, and the first byte of a longer one. -/
theorem numberFirstByte : Obligations.NumberFirstByte := by
  refine fun s h => ⟨fun i len x hi hbs hsr => ?_, fun x => outcome_ended (badNumberLead_run h), outcome_ended (badNumberLead_run h)⟩
  obtain ⟨hx, hexec⟩ := exec_of_numberLead hi
  rw [hexec]
  split_ifs with hframe hone
  · obtain ⟨rfl, hblocking⟩ := hframe
    exact outcome_ended (numberLead_refuses x h hblocking)
  · subst hone
    rw [outcome_ok (numberLead_one h hbs hsr), setWidth_ofNat_of_lt (hx rfl)]
  · exact outcome_ok (numberLead_more x h hone hframe)

/-! ### A following byte of NUMBER -/

/-- Six more bits of the number (R180). -/
def numberWith (acc : BitVec 36) (c : BitVec 8) : BitVec 36 := (acc <<< 6) ||| (c.setWidth 6).setWidth 36

theorem toNat_numberWith {acc : BitVec 36} (h : acc.toNat < 2 ^ 30) (c : BitVec 8) :
    (numberWith acc c).toNat = acc.toNat * 64 + c.toNat % 64 := by
  have hlow : ((c.setWidth 6).setWidth 36).toNat = c.toNat % 64 := by
    simp only [BitVec.toNat_setWidth]
    omega
  have hhigh : (acc <<< 6).toNat = acc.toNat <<< 6 := by
    rw [BitVec.toNat_shiftLeft, Nat.shiftLeft_eq, Nat.mod_eq_of_lt (by omega)]
  rw [numberWith, BitVec.toNat_or, hlow, hhigh, ← Nat.shiftLeft_add_eq_or_of_lt (Nat.mod_lt _ (by decide)), Nat.shiftLeft_eq]

/-- The mark of a following byte, 10 (R90). -/
theorem shiftRight_ne_two_iff (c : BitVec 8) : (c >>> 6 != 2) = true ↔ c.toNat / 64 ≠ 2 := by
  rw [bne_iff_ne, ne_eq, ← BitVec.toNat_inj, BitVec.toNat_ushiftRight, Nat.shiftRight_eq_div_pow]
  rfl

/-- A byte without the mark is refused (R180). -/
theorem numberByte_refuses {c : BitVec 8} {s : State} (h : 8 ≤ s.stream.length) (hmark : c.toNat / 64 ≠ 2) :
    numberByte c s = .error .ended (errorEntry .invalidFrameNumber 0 0 (s.skip 8)) := by
  rw [numberByte, bind_ok (skipBits_ok h), bind_run, raiseIf_run, if_pos ((shiftRight_ne_two_iff c).mpr hmark)]

/-- A byte with the mark: the number with its bits is done after the last byte, and stays in the sequencer before it. -/
theorem numberByte_run {c : BitVec 8} {s : State} (h : 8 ≤ s.stream.length) (hmark : c.toNat / 64 = 2) :
    numberByte c s =
      (let v := numberWith s.seq.numAcc c
       if s.seq.numLeft.toNat ≤ 1 then numberDone v
       else update fun t => { t with seq.numLeft := s.seq.numLeft - 1, seq.numAcc := v }) (s.skip 8) := by
  have hcheck : raiseIf (c >>> 6 != 2) .invalidFrameNumber 0 (s.skip 8) = .ok () (s.skip 8) := by
    rw [raiseIf_run, if_neg fun hc => (shiftRight_ne_two_iff c).mp hc hmark]
  rw [numberByte, bind_ok (skipBits_ok h), bind_ok hcheck, bind_ok (ask_run _ _), skip_seq]
  rfl

/-- The end of NUMBER, for every code R174 and R175 let pass. -/
theorem numberDone_ok {v : BitVec 36} {s : State} (hbs : s.fh.bsCode ≠ 0) (hsr : s.fh.srCode ≠ 15) :
    numberDone v s = .ok () ({ s with fh.number := v.setWidth 64 } : State).afterNumber :=
  (bind_ok (update_run _ _)).trans (resolveBlockSize_ok hbs hsr)

/-- Settles O38: the byte's mark, the number with its six bits, and TRAILING after the last byte. -/
theorem numberFollowingByte : Obligations.NumberFollowingByte := by
  intro c s h hacc hleft hbs hsr
  have hv := toNat_numberWith hacc c
  have hbits : numberWith s.seq.numAcc c = BitVec.ofNat 36 (s.seq.numAcc.toNat * 64 + c.toNat % 64) := by
    rw [← hv, BitVec.ofNat_toNat, BitVec.setWidth_eq]
  have hrow : exec (.numContinuation c) s = outcome (numberByte c) s := rfl
  rw [hrow]
  dsimp only
  split_ifs with hmark hlast
  · exact outcome_ended (numberByte_refuses h hmark)
  · have hdone := numberDone_ok (v := numberWith s.seq.numAcc c) (s := s.skip 8) (by rwa [skip_fh]) (by rwa [skip_fh])
    rw [hbits, setWidth_ofNat_of_lt (by omega)] at hdone
    refine outcome_ok ((numberByte_run h (not_not.mp hmark)).trans ?_)
    simp only [hlast, hbits]
    exact hdone
  · refine outcome_ok ((numberByte_run h (not_not.mp hmark)).trans ?_)
    simp only [if_neg (show ¬s.seq.numLeft.toNat ≤ 1 by bv_omega), update_run, skip_seq, hbits]

end Sys2Proof.Machine

/-!
The subframe bodies (R205 to R207, R213, R214) after their header with any count of wasted bits: CONSTANT and VERBATIM up to the next
channel, FIXED and LPC up to their residual.
-/

namespace Sys2Proof.Machine

/-! ### The header with its wasted bits -/

theorem wastedBits_length (k : Nat) : (wastedBits k).length = k := by
  cases k with
  | zero => rfl
  | succ q => simp [wastedBits, unaryBits]

/-- The subframe's header read: the cursor after it, and the registers it writes (R202, R203). -/
def State.afterHeader (s : State) (type : Nat) (kind : SubframeKind) (order k : Nat) : State :=
  (s.skip (8 + k)).withSf (s.sf.withHeader type kind order k)

/-- A count of wasted bits that leaves a width within MAX_READ_WIDTH (R203, R204). -/
structure LeavesWidth (k : Nat) (s : State) : Prop where
  pos : k < s.fullWidthNow
  le : s.fullWidthNow - k ≤ s.cfg.maxReadWidth

/-- The header's eight bits as a row of the type encodes them, and its wasted-bits field (R91, R92). -/
def headerAhead (type k : Nat) (body : Bits) (s : State) : Prop :=
  s.stream = false :: natToBits 6 type ++ [decide (0 < k)] ++ (wastedBits k ++ body)

theorem headerAhead.stream {type k : Nat} {body : Bits} {s : State} (h : headerAhead type k body s) :
    8 ≤ s.stream.length ∧ (s.skip 8).stream = wastedBits k ++ body ∧ (s.skip (8 + k)).stream = body := by
  have hlen : (false :: natToBits 6 type ++ [decide (0 < k)]).length = 8 := by simp
  have hcount := stream_skip_of_ahead h hlen
  refine ⟨by rw [h, List.length_append]; omega, hcount, ?_⟩
  rw [skip_add, stream_skip_of_ahead hcount (wastedBits_length k)]

theorem toNat_withHeader_w {k : Nat} {s : State} (h : LeavesWidth k s) (type : Nat) (kind : SubframeKind) (order : Nat) :
    (s.sf.withHeader type kind order k).w.toNat = s.fullWidthNow - k :=
  toNat_wastedWidth h.pos.le

theorem toNat_withHeader_wasted {k : Nat} {s : State} (h : LeavesWidth k s) (type : Nat) (kind : SubframeKind) (order : Nat) :
    (s.sf.withHeader type kind order k).wasted.toNat = k :=
  Nat.mod_eq_of_lt (h.pos.trans s.sf.fullW.isLt)

/-- The header that is ahead, for a type that selects a decoder (R201 to R204). -/
theorem subframeHeader_ok {type order k : Nat} {kind : SubframeKind} {body : Bits} {s : State} (hw : LeavesWidth k s)
    (hkind : subframeKindOf s.cfg type = some (kind, order)) (h : headerAhead type k body s) :
    subframeHeader type (decide (0 < k)) s = .ok () (s.afterHeader type kind order k) := by
  obtain ⟨hlen, hcount, -⟩ := h.stream
  have hwasted := wastedCount_ok (sf := s.sf.withType type kind order) (.inl hw.pos) hcount
  have hwidth := widthAfterWasted_run (type := type) (order := order) (kind := kind) (s.skip (8 + k)) hw.pos.le
  rw [← skip_add] at hwasted
  rw [if_pos ⟨Nat.sub_pos_of_lt hw.pos, by rw [skip_cfg]; exact hw.le⟩] at hwidth
  rw [subframeHeader_eq _ hkind hlen]
  exact (bind_ok hwasted).trans hwidth

/-- A type that selects nothing ends the subframe before its wasted-bits flag (R202). -/
theorem subframeHeader_refuses {type : Nat} {s : State} (flag : Bool) (hkind : subframeKindOf s.cfg type = none)
    (h : 7 ≤ s.stream.length) :
    subframeHeader type flag s =
      .error .ended (errorEntry .invalidSubframeType 0 0 { s.skip 7 with sf.type := BitVec.ofNat 6 type }) := by
  have hread : skipBits 6 (s.skip 1) = .ok () (s.skip 7) := skipBits_next h
  rw [subframeHeader, bind_ok (skipBits_ok (by omega)), bind_error (subframeType_refuses hread (by rwa [skip_cfg]))]

/-! ### CONSTANT and VERBATIM -/

/-- A row filled with one value (R205). -/
theorem fillRow_ok {c n : Nat} (v : Int) {s : State} (hc : c < s.cfg.maxChannels.val) (hn : n ≤ s.cfg.maxBlock.val) :
    ∃ sub, forRange 0 n (fun i => writeSample c i v) s = .ok () (s.withSub sub) ∧ RowWritten s.sub sub c 0 n fun _ => v := by
  obtain ⟨t, ht, sub, rfl, hrow⟩ : ∃ t, forRange 0 n (fun i => writeSample c i v) s = .ok () t ∧
      ∃ sub, t = s.withSub sub ∧ RowWritten s.sub sub c 0 (0 + n) fun _ => v := by
    refine forRange_ok (P := fun i t => ∃ sub, t = s.withSub sub ∧ RowWritten s.sub sub c 0 i fun _ => v) ?_
      ⟨s.sub, rfl, .refl _ _ _ _⟩
    rintro i t - hi ⟨sub, rfl, hrow⟩
    exact ⟨_, writeSample_ok v (s := s.withSub sub) hc (by rw [withSub_cfg]; omega), _, rfl, hrow.snoc (Nat.zero_le i)⟩
  rw [Nat.zero_add] at hrow
  exact ⟨sub, ht, hrow⟩

/-- A subframe whose row has been read: the row is shifted by the wasted bits, and the channel loop goes on (R200, R217). -/
theorem exists_rowShifted {m : M Unit} {j k type : Nat} {kind : SubframeKind} {f : Nat → Int} {sub : SampleRam} {s : State}
    (hw : LeavesWidth k s) (hc : s.sf.ch.toNat < s.cfg.maxChannels.val) (hn : s.fh.blockSize.toNat ≤ s.cfg.maxBlock.val)
    (hrun : m s = finishSubframe (((s.skip j).withSf (s.sf.withHeader type kind 0 k)).withSub sub))
    (hrow : RowWritten s.sub sub s.sf.ch.toNat 0 s.fh.blockSize.toNat f) :
    ∃ t : State, { t with sub := s.sub } = { s.skip j with sf := s.sf.withHeader type kind 0 k } ∧
      t.sub.Holds s.sf.ch.toNat 0 s.fh.blockSize.toNat (fun i => f i * 2 ^ k) ∧
      s.sub.SameBut t.sub s.sf.ch.toNat 0 s.fh.blockSize.toNat ∧
      outcome m s = outcome (startChannel (s.sf.ch.toNat + 1)) t ∧
      (s.sf.ch.toNat + 1 < s.fh.channels.toNat → outcome m s = .next (t.atSubframe (s.sf.ch.toNat + 1))) := by
  obtain ⟨sub', hfinish, hrow'⟩ := finishSubframe_ok
    (s := ((s.skip j).withSf (s.sf.withHeader type kind 0 k)).withSub sub) (by simpa using hc) (by simpa using hn)
    (by simpa using hrow.holds)
  simp only [withSub_withSub, withSub_sf, withSub_fh, withSub_sub, withSf_sf, withSf_fh, withHeader_ch, skip_fh,
    toNat_withHeader_wasted hw] at hfinish hrow'
  have hnext := hrun.trans hfinish
  refine ⟨((s.skip j).withSf (s.sf.withHeader type kind 0 k)).withSub sub', ?_, hrow'.holds, (hrow.trans hrow').sameBut,
    by rw [outcome, hnext, outcome], fun hch => outcome_ok (hnext.trans (startChannel_next ?_))⟩
  · rw [← skip_sub j s]
    rfl
  · simpa using hch

/-- Settles O43: the header, the value, the row filled with it, and the shift. -/
theorem constantSubframe_complete : Obligations.ConstantSubframe := by
  intro k v rest s
  dsimp only
  intro hk hmax hc hn hfit h
  have hw : LeavesWidth k s := ⟨hk, hmax⟩
  rw [List.append_assoc, List.append_assoc] at h
  have hhead : headerAhead 0 k _ s := h
  obtain ⟨-, -, hbody⟩ := hhead.stream
  have hheader := subframeHeader_ok hw rfl hhead
  have hrow : exec (.sfConstant (decide (0 < k))) s = outcome (constantSubframe (decide (0 < k))) s := rfl
  obtain ⟨hread, -⟩ := readsValue_readS hfit (s.afterHeader 0 .constant 0 k) rest hbody
  rw [signedBits_length, State.afterHeader, skip_withSf, ← skip_add] at hread
  obtain ⟨sub, hfill, hfilled⟩ := fillRow_ok (n := s.fh.blockSize.toNat) v
    (s := (s.skip (8 + k + (s.fullWidthNow - k))).withSf (s.sf.withHeader 0 .constant 0 k)) (by simpa using hc) (by simpa using hn)
  rw [withSf_sub, skip_sub] at hfilled
  rw [hrow]
  refine exists_rowShifted hw hc hn ?_ hfilled
  rw [constantSubframe, bind_ok hheader, bind_ok (ask_run _ _), bind_ok (ask_run _ _)]
  simp only [State.afterHeader, withSf_sf, withSf_fh, skip_fh, withHeader_ch, toNat_withHeader_w hw]
  rw [bind_ok hread, bind_ok hfill]

/-- Two's complement fields of the width that is left, read into the subframe's row after its header (R206, R207, R213). -/
theorem samplesAfterHeader_ok {type order k : Nat} {kind : SubframeKind} {vs : List Int} {body rest : Bits} {s : State}
    (hw : LeavesWidth k s) (hc : s.sf.ch.toNat < s.cfg.maxChannels.val) (hn : vs.length ≤ s.cfg.maxBlock.val)
    (hfits : ∀ v ∈ vs, fits (s.fullWidthNow - k) v = true) (hhead : headerAhead type k body s)
    (hbody : body = vs.flatMap (signedBits (s.fullWidthNow - k)) ++ rest) :
    let j := 8 + k + vs.length * (s.fullWidthNow - k)
    (∃ sub, warmup vs.length (s.afterHeader type kind order k) =
        .ok () (((s.skip j).withSf (s.sf.withHeader type kind order k)).withSub sub) ∧
      RowWritten s.sub sub s.sf.ch.toNat 0 vs.length (vs.getD · 0)) ∧
    (s.skip j).stream = rest := by
  obtain ⟨-, -, hahead⟩ := hhead.stream
  rw [hbody] at hahead
  obtain ⟨sub, hread, hrow⟩ := readSamples_ok (c := s.sf.ch.toNat) (i := 0) (s := s.afterHeader type kind order k)
    (by simpa [State.afterHeader] using hc) (by simpa [State.afterHeader] using hn) hfits hahead
  rw [State.afterHeader, skip_withSf, ← skip_add] at hread
  rw [State.afterHeader, withSf_sub, skip_sub, Nat.zero_add] at hrow
  refine ⟨⟨sub, ?_, hrow⟩, ?_⟩
  · rw [warmup, bind_ok (ask_run _ _)]
    simp only [State.afterHeader, withSf_sf, withHeader_ch, toNat_withHeader_w hw]
    exact hread
  · rw [skip_add]
    exact stream_skip_of_ahead hahead (flatMap_signedBits_length _ _)

/-- Settles O44: the header, the values read into the row, and the shift. -/
theorem verbatimSubframe_complete : Obligations.VerbatimSubframe := by
  intro k vs rest s
  dsimp only
  intro hk hmax hc hn hlen hfits h
  have hw : LeavesWidth k s := ⟨hk, hmax⟩
  rw [List.append_assoc, List.append_assoc] at h
  have hhead : headerAhead 1 k _ s := h
  have hheader := subframeHeader_ok hw rfl hhead
  have hexec : exec (.sfVerbatim (decide (0 < k))) s = outcome (verbatimSubframe (decide (0 < k))) s := rfl
  obtain ⟨⟨sub, hread, hrow⟩, -⟩ :=
    samplesAfterHeader_ok (kind := .verbatim) (order := 0) hw hc (hlen.trans_le hn) hfits hhead rfl
  rw [hlen] at hread hrow
  rw [hexec]
  refine exists_rowShifted hw hc hn ?_ hrow
  rw [verbatimSubframe, bind_ok hheader, bind_ok (ask_run _ _), bind_ok (ask_run _ _)]
  simp only [State.afterHeader, withSf_fh, skip_fh] at hread ⊢
  exact bind_ok hread

/-! ### FIXED -/

/-- A FIXED row of the order is its operation, of an order up to 4, and encodes its type (R92). -/
theorem fixedOrder_row {i : Instr} {p : Nat} {flag : Bool} (h : i.fixedOrder? = some (p, flag)) :
    p ≤ 4 ∧ i.encode = false :: natToBits 6 (8 + p) ++ [flag] ∧ ∀ s, exec i s = outcome (fixedSubframe p flag) s := by
  unfold Instr.fixedOrder? at h
  split at h <;> cases h
  all_goals exact ⟨by decide, rfl, fun _ => rfl⟩

/-- Settles O45: an order past the configured one selects nothing; any other reads its header and its warmup samples. -/
theorem fixedWarmup : Obligations.FixedWarmup := by
  intro i p k warm rest s
  refine ⟨fun hi hpast hlen => ?_, ?_⟩
  · obtain ⟨hp, -, hexec⟩ := fixedOrder_row hi
    have hkind : subframeKindOf s.cfg (8 + p) = none := subframeKindOf_none (by omega) (by omega) (by omega)
    have hrun : fixedSubframe p (decide (0 < k)) s = _ := bind_error (subframeHeader_refuses _ hkind hlen)
    exact (hexec s).trans (outcome_ended hrun)
  · dsimp only
    intro hi hp hk hmax hc hn hlen hfits h
    obtain ⟨-, hencode, hexec⟩ := fixedOrder_row hi
    have hw : LeavesWidth k s := ⟨hk, hmax⟩
    rw [hencode, List.append_assoc, List.append_assoc] at h
    have hheader := subframeHeader_ok hw (subframeKindOf_fixed hp) h
    obtain ⟨⟨sub, hread, hrow⟩, -⟩ :=
      samplesAfterHeader_ok (kind := .fixed) (order := p) hw hc (hlen.trans_le hn) hfits h rfl
    rw [hlen] at hread hrow
    have hrun : fixedSubframe p (decide (0 < k)) s = _ := (bind_ok hheader).trans ((bind_ok hread).trans (goto_run _ _))
    refine ⟨_, (hexec s).trans (outcome_ok hrun), ?_, hrow.holds, hrow.sameBut⟩
    generalize hj : 8 + k + p * (s.fullWidthNow - k) = j
    rw [← skip_sub j s]
    rfl

end Sys2Proof.Machine

/-! The LPC rows (R213, R214): the precision, the shift and the coefficients after the warmup samples, up to the residual. -/

namespace Sys2Proof.Machine

/-- An LPC row of the order is its operation, of an order from 1 to 32, and encodes its type (R92). -/
theorem lpcOrder_row {i : Instr} {p : Nat} {flag : Bool} (h : i.lpcOrder? = some (p, flag)) :
    1 ≤ p ∧ p ≤ 32 ∧ i.encode = false :: natToBits 6 (31 + p) ++ [flag] ∧ ∀ s, exec i s = outcome (lpcSubframe p flag) s := by
  unfold Instr.lpcOrder? at h
  split at h <;> cases h
  all_goals exact ⟨by decide, by decide, rfl, fun _ => rfl⟩

/-- The LPC registers replaced. -/
def State.withLpc (s : State) (lpc : Lpc) : State := { s with lpc := lpc }

theorem skip_withLpc (n : Nat) (lpc : Lpc) (s : State) : (s.withLpc lpc).skip n = (s.skip n).withLpc lpc :=
  skip_with_lpc n lpc s

@[simp] theorem withLpc_stream (s : State) (lpc : Lpc) : (s.withLpc lpc).stream = s.stream := rfl

@[simp] theorem withLpc_lpc (s : State) (lpc : Lpc) : (s.withLpc lpc).lpc = lpc := rfl

@[simp] theorem withLpc_withLpc (s : State) (lpc lpc' : Lpc) : (s.withLpc lpc).withLpc lpc' = s.withLpc lpc' := rfl

@[simp] theorem withSub_stream (s : State) (sub : SampleRam) : (s.withSub sub).stream = s.stream := rfl

@[simp] theorem withSub_lpc (s : State) (sub : SampleRam) : (s.withSub sub).lpc = s.lpc := rfl

@[simp] theorem withSf_lpc (s : State) (sf : Subframe) : (s.withSf sf).lpc = s.lpc := rfl

@[simp] theorem withPrecision_stream (s : State) (code : Nat) : (s.withPrecision code).stream = s.stream := rfl

/-- A five-bit shift below 16 is not negative (R213). -/
theorem toInt_shift {shift : Nat} (h : shift ≤ 15) : (BitVec.ofNat 5 shift).toInt = shift := by
  have hnat : (BitVec.ofNat 5 shift).toNat = shift := Nat.mod_eq_of_lt (by omega)
  rw [BitVec.toInt_eq_toNat_of_lt (by omega), hnat]

/-- The precision and the shift that are ahead are read and written (R213). -/
theorem lpcHeader_ok {prec shift : Nat} {rest : Bits} {s : State} (hp : 1 ≤ prec) (hp' : prec ≤ 15)
    (hmax : prec ≤ s.cfg.maxReadWidth) (hs : shift ≤ 15)
    (h : s.stream = natToBits 4 (prec - 1) ++ (natToBits 5 shift ++ rest)) :
    lpcHeader s =
        .ok () ((s.skip 9).withLpc { s.lpc with prec := BitVec.ofNat 5 prec, shift := BitVec.ofNat 5 shift }) ∧
      (s.skip 9).stream = rest := by
  obtain ⟨hcode, hahead⟩ := readU_ok (by omega) h
  have hfield : ((s.skip 4).withPrecision (prec - 1)).stream = natToBits 5 (BitVec.ofNat 5 shift).toNat ++ rest := by
    rwa [withPrecision_stream, BitVec.toNat_ofNat, Nat.mod_eq_of_lt (by omega)]
  obtain ⟨hshift, hrest⟩ := readS_ok hfield
  rw [skip_withPrecision, ← skip_add] at hshift hrest
  rw [withPrecision_stream] at hrest
  refine ⟨?_, hrest⟩
  rw [lpcHeader_run hcode, if_neg (by omega), if_neg (by rw [skip_cfg]; omega), hshift]
  simp only [State.withPrecision, Nat.sub_add_cancel hp, BitVec.ofInt_toInt, skip_lpc]
  rw [if_neg (by rw [toInt_shift hs]; omega)]
  rfl

/-- Coefficients that are ahead are read and written from `QLP[j]` on (R214). -/
theorem lpcCoefs_ok {prec j : Nat} {qs : List Int} {rest : Bits} {s : State} (hj : j + qs.length ≤ 32)
    (hfits : ∀ q ∈ qs, fits prec q = true) (h : s.stream = qs.flatMap (signedBits prec) ++ rest) :
    ∃ qlp, lpcCoefs prec j qs.length s = .ok () ((s.skip (qs.length * prec)).withLpc { s.lpc with qlp := qlp }) ∧
      (∀ i, j ≤ i → i < j + qs.length → qlp[i]? = some (BitVec.ofInt 15 (rowFrom j qs i))) ∧
      ∀ i, i < j ∨ j + qs.length ≤ i → qlp[i]? = s.lpc.qlp[i]? := by
  induction qs generalizing j s with
  | nil =>
    refine ⟨s.lpc.qlp, ?_, fun i hlo hhi => absurd hhi (by simp; omega), fun _ _ => rfl⟩
    rw [List.length_nil, Nat.zero_mul]
    rfl
  | cons q qs ih =>
    obtain ⟨hfit, hrest⟩ := List.forall_mem_cons.1 hfits
    rw [List.flatMap_cons, List.append_assoc] at h
    rw [List.length_cons] at hj ⊢
    obtain ⟨hread, hahead⟩ := (readSignedField).2 prec q _ s hfit h
    obtain ⟨qlp, hrun, hheld, hsame⟩ := ih (j := j + 1)
      (s := (s.skip prec).withLpc { s.lpc with qlp := s.lpc.qlp.setIfInBounds j (BitVec.ofInt 15 q) }) (by omega) hrest hahead
    have hwrite : update (fun s => { s with lpc.qlp := s.lpc.qlp.setIfInBounds j (BitVec.ofInt 15 q) }) (s.skip prec) =
        .ok () ((s.skip prec).withLpc { s.lpc with qlp := s.lpc.qlp.setIfInBounds j (BitVec.ofInt 15 q) }) := by
      rw [update_run, skip_lpc]
      rfl
    rw [withLpc_lpc] at hsame
    refine ⟨qlp, ?_, fun i hlo hhi => ?_, fun i hout => ?_⟩
    · rw [lpcCoefs, bind_ok hread, bind_ok hwrite, hrun, skip_withLpc, withLpc_withLpc, withLpc_lpc, ← skip_add, Nat.succ_mul,
        Nat.add_comm prec]
    · rcases Nat.eq_or_lt_of_le hlo with rfl | hlo
      · rw [hsame _ (.inl (Nat.lt_succ_self _)), Vector.getElem?_setIfInBounds_self_of_lt (by omega)]
        simp [rowFrom]
      · rw [hheld i hlo (by omega), rowFrom_succ q qs hlo]
    · rw [hsame i (by omega), Vector.getElem?_setIfInBounds_ne (by omega)]

/-- A value fits every width from a width it fits on. -/
theorem fits_mono {m n : Nat} {v : Int} (hm : 1 ≤ m) (hmn : m ≤ n) (h : fits m v = true) : fits n v = true := by
  have hpow : (2 ^ (m - 1) : Int) ≤ 2 ^ (n - 1) := by exact_mod_cast Nat.pow_le_pow_right (by decide) (by omega : m - 1 ≤ n - 1)
  simp only [fits, if_neg (show ¬m = 0 by omega), if_neg (show ¬n = 0 by omega), decide_eq_true_eq] at h ⊢
  omega

/-- The fields after the warmup samples, which are ahead: the registers they write, and the residual next (R213, R214). -/
theorem lpcFields_ok {prec shift : Nat} {coefs : List Int} {rest : Bits} {s : State} (hp : 1 ≤ prec) (hp' : prec ≤ 15)
    (hmax : prec ≤ s.cfg.maxReadWidth) (hs : shift ≤ 15) (hcount : coefs.length ≤ 32) (hcoefs : ∀ q ∈ coefs, fits prec q = true)
    (h : s.stream = natToBits 4 (prec - 1) ++ (natToBits 5 shift ++ (coefs.flatMap (signedBits prec) ++ rest))) :
    ∃ qlp : Vector (BitVec 15) 32,
      (do lpcHeader
          let prec ← ask fun s => s.lpc.prec.toNat
          lpcCoefs prec 0 coefs.length
          goto .residual : M Unit) s =
        .ok () { (s.skip (9 + coefs.length * prec)).withLpc ⟨BitVec.ofNat 5 prec, BitVec.ofNat 5 shift, qlp⟩ with
          seq.pos := .residual } ∧
      (∀ j < coefs.length, (qlp[j]?.getD 0).toInt = coefs.getD j 0) ∧ ∀ j, coefs.length ≤ j → qlp[j]? = s.lpc.qlp[j]? := by
  obtain ⟨hheader, hahead⟩ := lpcHeader_ok hp hp' hmax hs h
  have hprec : (BitVec.ofNat 5 prec).toNat = prec := Nat.mod_eq_of_lt (by omega)
  obtain ⟨qlp, hrun, hheld, hsame⟩ := lpcCoefs_ok (j := 0)
    (s := (s.skip 9).withLpc { s.lpc with prec := BitVec.ofNat 5 prec, shift := BitVec.ofNat 5 shift }) (by omega) hcoefs (by rwa [withLpc_stream])
  refine ⟨qlp, ?_, fun j hj => ?_, fun j hj => hsame j (.inr (by omega))⟩
  · rw [bind_ok hheader, bind_ok (ask_run _ _), withLpc_lpc, hprec, bind_ok hrun, skip_withLpc, ← skip_add]
    rfl
  · have hfit : fits 15 (coefs.getD j 0) = true := by
      rw [List.getD_eq_getElem _ _ hj]
      exact fits_mono hp hp' (hcoefs _ (List.getElem_mem hj))
    rw [hheld j (Nat.zero_le j) (by omega)]
    exact toInt_ofInt_of_fits hfit

/-- Settles O46: an order past the configured one selects nothing; any other reads its header, its warmup samples, the precision
and the shift, and its coefficients. -/
theorem lpcHeaderAndCoefficients : Obligations.LpcHeaderAndCoefficients := by
  intro i p k prec shift warm coefs rest s
  refine ⟨fun hi hpast hlen => ?_, ?_⟩
  · obtain ⟨hp, -, -, hexec⟩ := lpcOrder_row hi
    have := s.cfg.maxFixedOrder.isLt
    have hkind : subframeKindOf s.cfg (31 + p) = none := subframeKindOf_none (by omega) (by omega) (by omega)
    have hrun : lpcSubframe p (decide (0 < k)) s = _ := bind_error (subframeHeader_refuses _ hkind hlen)
    exact (hexec s).trans (outcome_ended hrun)
  · dsimp only
    intro hi hp hk hmax hc hn hlen hfits hprec hprec' hprecMax hshift hcount hcoefs h
    obtain ⟨hp1, hp32, hencode, hexec⟩ := lpcOrder_row hi
    have hw : LeavesWidth k s := ⟨hk, hmax⟩
    simp only [List.append_assoc] at h
    rw [hencode] at h
    have hheader := subframeHeader_ok hw (subframeKindOf_lpc hp1 hp) h
    obtain ⟨⟨sub, hwarm, hrow⟩, hahead⟩ :=
      samplesAfterHeader_ok (kind := .lpc) (order := p) hw hc (hlen.trans_le hn) hfits h rfl
    obtain ⟨qlp, hfields, hheld, hsame⟩ := lpcFields_ok
      (s := ((s.skip (8 + k + warm.length * (s.fullWidthNow - k))).withSf (s.sf.withHeader (31 + p) .lpc p k)).withSub sub)
      hprec hprec' (by simpa using hprecMax) hshift (by omega) hcoefs (rest := rest) (by rwa [withSub_stream, withSf_stream])
    rw [hlen] at hwarm hrow hfields
    rw [hcount, skip_withSub, skip_withSf, ← skip_add, ← Nat.add_assoc] at hfields
    rw [hcount] at hheld
    rw [hcount, withSub_lpc, withSf_lpc, skip_lpc] at hsame
    have hrun : lpcSubframe p (decide (0 < k)) s = _ := (bind_ok hheader).trans ((bind_ok hwarm).trans hfields)
    refine ⟨_, (hexec s).trans (outcome_ok hrun), ?_, hrow.holds, hrow.sameBut, hheld, hsame⟩
    generalize 8 + k + p * (s.fullWidthNow - k) + 9 + p * prec = j
    rw [← skip_sub j s, ← skip_lpc j s]
    rfl

end Sys2Proof.Machine
